-- ==== Sys2Proof/Word.lean ====
section
/-! DEFINITION. The widths the spec gives the core's values (00_scope.md R5, R8, R9: bit 0 has weight 1, every value is
unsigned) and the words a host operation is written as (30_encoding.md R90, R93). -/

namespace Sys2Proof

/-- One byte: a VRAM cell, a control register, `STATUS`, `FIRST`, `LATCH` (10_state.md R20). -/
abbrev Byte := BitVec 8

/-- A 14-bit VRAM address; its arithmetic wraps modulo 16384 (10_state.md R34). -/
abbrev Addr := BitVec 14

/-- A colour code, 0 to 15 (00_scope.md R11). -/
abbrev Colour := BitVec 4

/-- A packed pixel value of `bits` bits; the core's are of `PIXEL_BITS` bits (00_scope.md R5). -/
abbrev Pixel (bits : Nat) := BitVec bits

/-- Format `STIM`: one host stimulus, `sel` in bits 10:8 and `data` in bits 7:0 (30_encoding.md R90). -/
abbrev StimWord := BitVec 11

/-- Format `CMD`: one completed control pair, `second ++ first` (30_encoding.md R93). -/
abbrev CmdWord := BitVec 16

/-- A word together with the format it is written in: the two formats number their bits independently, so a bare number
does not say which of the two it is (30_encoding.md R90, R93, R109). -/
inductive InstrWord where
  | stim (w : StimWord)
  | cmd (w : CmdWord)
  deriving DecidableEq, Repr

end Sys2Proof
end

