-- ==== Sys2Proof/Syntax.lean ====
section
/-! DEFINITION. What the host can ask of the core: the six stimuli and the two control commands, one constructor for each
row of spec/opcode_table.json (30_encoding.md R91, R109). -/

namespace Sys2Proof

/-- The eight rows of the opcode table. Operands have exactly the widths of the spec; bits that an encoding ignores
(30_encoding.md R92, R97) are no operands and do not appear. -/
inductive Instr where
  /-- `DATA_WRITE b`: a byte written to the data port (R155). -/
  | dataWrite (b : Byte)
  /-- `DATA_READ`: a byte read from the data port (R156). -/
  | dataRead
  /-- `CTRL_WRITE b`: a byte written to the control port (R151). -/
  | ctrlWrite (b : Byte)
  /-- `STATUS_READ`: a byte read from the control port (R154). -/
  | statusRead
  /-- `RENDER`: the host asks for a frame (R180). -/
  | render
  /-- `RESET`: construction (R250). -/
  | reset
  /-- `SET_ADDR A`: what a completed control pair does when bit 7 of its second byte is 0 (R152). -/
  | setAddr (a : Addr)
  /-- `REG_WRITE r, v`: what a completed control pair does when bit 7 of its second byte is 1 (R153). -/
  | regWrite (r : Fin 8) (v : Byte)
  deriving DecidableEq, Repr

end Sys2Proof
end

