-- ==== Sys2Proof/WellFormed.lean ====
section
/-! DEFINITION. Which words and instructions are well formed. The only ill-formed thing this interface knows is a `STIM`
word whose selector is 6 or 7 (30_encoding.md R98); every operand value of every instruction is legal (R99). -/

namespace Sys2Proof

/-- A `STIM` word names a stimulus when its selector is 0 to 5 (30_encoding.md R91, R98). -/
def StimWord.wellFormed (w : StimWord) : Bool :=
  decide ((w.extractLsb' 8 3).toNat < 6)

/-- A word of either format: every `CMD` word is one of the two commands (30_encoding.md R94). -/
def InstrWord.wellFormed : InstrWord → Bool
  | .stim w => StimWord.wellFormed w
  | .cmd _ => true

/-- Every instruction is well formed: its operands' types already hold exactly the values the encodings admit, and "every
input (any byte value, any address) is valid by construction" (30_encoding.md R99). -/
def Instr.wellFormed : Instr → Bool
  | .dataWrite _ => true
  | .dataRead => true
  | .ctrlWrite _ => true
  | .statusRead => true
  | .render => true
  | .reset => true
  | .setAddr _ => true
  | .regWrite _ _ => true

end Sys2Proof
end

