-- ==== Sys2Proof/Decode.lean ====
section
/-! DEFINITION. The decoder of stimuli and control commands, total on every word, and after it the encoder, both written
from the formats of 30_encoding.md; and the opcode table's rows as data. -/

namespace Sys2Proof

/-- Why a word is rejected. -/
inductive DecodeError where
  /-- The selector of a `STIM` word is 6 or 7, which name no stimulus (30_encoding.md R98). -/
  | namesNoStimulus (sel : BitVec 3)
  deriving DecidableEq, Repr

/-- The selector, bits 10:8 of a `STIM` word (30_encoding.md R90). -/
def stimSel (w : StimWord) : BitVec 3 := w.extractLsb' 8 3

/-- The data byte, bits 7:0 of a `STIM` word (30_encoding.md R90). -/
def stimData (w : StimWord) : Byte := w.extractLsb' 0 8

/-- The stimulus a `STIM` word names (30_encoding.md R91); `data` is ignored by the four that carry none (R92). -/
def decodeStim (w : StimWord) : Except DecodeError Instr :=
  match (stimSel w).toNat with
  | 0 => .ok (.dataWrite (stimData w))
  | 1 => .ok .dataRead
  | 2 => .ok (.ctrlWrite (stimData w))
  | 3 => .ok .statusRead
  | 4 => .ok .render
  | 5 => .ok .reset
  | _ => .error (.namesNoStimulus (stimSel w))

/-- The word of a completed control pair: the first byte is the low-order one (30_encoding.md R93). -/
def cmdWord (first second : Byte) : CmdWord := second ++ first

/-- `op`, bit 15: set selects `REG_WRITE`, and nothing else takes part in the selection (30_encoding.md R94). -/
def cmdIsRegWrite (w : CmdWord) : Bool := w.getLsbD 15

/-- The 14-bit address of `SET_ADDR`, bits 13:0; bit 14 is ignored (30_encoding.md R95, R97). -/
def cmdAddr (w : CmdWord) : Addr := w.extractLsb' 0 14

/-- The register index of `REG_WRITE`, bits 10:8; bits 14:11 are ignored (30_encoding.md R96, R97). -/
def cmdReg (w : CmdWord) : Fin 8 := (w.extractLsb' 8 3).toFin

/-- The value of `REG_WRITE`, bits 7:0 (30_encoding.md R96). -/
def cmdValue (w : CmdWord) : Byte := w.extractLsb' 0 8

/-- The command of a completed control pair: every word is one of two (30_encoding.md R94). -/
def decodeCmd (w : CmdWord) : Instr :=
  if cmdIsRegWrite w then .regWrite (cmdReg w) (cmdValue w) else .setAddr (cmdAddr w)

/-- The decoder of a word of either format (30_encoding.md R109). -/
def decode : InstrWord → Except DecodeError Instr
  | .stim w => decodeStim w
  | .cmd w => .ok (decodeCmd w)

/-- A `STIM` word from its selector and data byte (30_encoding.md R90). -/
def stimWord (sel : BitVec 3) (data : Byte) : StimWord := sel ++ data

/-- The encoder: ignored bits are written as 0 (30_encoding.md R91, R92, R95, R96). -/
def encode : Instr → InstrWord
  | .dataWrite b => .stim (stimWord 0#3 b)
  | .dataRead => .stim (stimWord 1#3 0#8)
  | .ctrlWrite b => .stim (stimWord 2#3 b)
  | .statusRead => .stim (stimWord 3#3 0#8)
  | .render => .stim (stimWord 4#3 0#8)
  | .reset => .stim (stimWord 5#3 0#8)
  | .setAddr a => .cmd (0#2 ++ a)
  | .regWrite r v => .cmd (1#1 ++ 0#4 ++ (BitVec.ofFin r : BitVec 3) ++ v)

/-- The same word with the bits its instruction ignores set to 0: the data byte of the four stimuli that carry none
(30_encoding.md R92), bit 14 of `SET_ADDR` and bits 14:11 of `REG_WRITE` (R97). -/
def canonicalWord : InstrWord → InstrWord
  | .stim w => if stimSel w = 0#3 ∨ stimSel w = 2#3 then .stim w else .stim (w &&& 0x700#11)
  | .cmd w => if cmdIsRegWrite w then .cmd (w &&& 0x87FF#16) else .cmd (w &&& 0x3FFF#16)

/-- A row of spec/opcode_table.json: a word of the row's format belongs to it when `w & mask = pattern`
(30_encoding.md R109). -/
structure OpcodeRow where
  mnemonic : String
  mask : InstrWord
  pattern : InstrWord
  deriving DecidableEq, Repr

/-- The row of each instruction, as spec/opcode_table.json has it. -/
def opcodeRow : Instr → OpcodeRow
  | .dataWrite _ => ⟨"DATA_WRITE", .stim 0x700#11, .stim 0x000#11⟩
  | .dataRead => ⟨"DATA_READ", .stim 0x700#11, .stim 0x100#11⟩
  | .ctrlWrite _ => ⟨"CTRL_WRITE", .stim 0x700#11, .stim 0x200#11⟩
  | .statusRead => ⟨"STATUS_READ", .stim 0x700#11, .stim 0x300#11⟩
  | .render => ⟨"RENDER", .stim 0x700#11, .stim 0x400#11⟩
  | .reset => ⟨"RESET", .stim 0x700#11, .stim 0x500#11⟩
  | .setAddr _ => ⟨"SET_ADDR", .cmd 0x8000#16, .cmd 0x0000#16⟩
  | .regWrite _ _ => ⟨"REG_WRITE", .cmd 0x8000#16, .cmd 0x8000#16⟩

/-- A word belongs to a row when it has the row's format and `w & mask = pattern` (30_encoding.md R109). -/
def inRow (w : InstrWord) (r : OpcodeRow) : Bool :=
  match w, r.mask, r.pattern with
  | .stim w, .stim m, .stim p => w &&& m == p
  | .cmd w, .cmd m, .cmd p => w &&& m == p
  | _, _, _ => false

/-- Which format a bare number of `nbits` bits is read in. Below 16 bits it is a `STIM` word. At 16 bits the two formats
share the numbers 0x000 to 0x5FF: those are read as `STIM` words, all others as `CMD` words.
DESIGN CHOICE, log entry 4: the two formats have separate numberings (30_encoding.md R90, R93) and the table's numbers do
not say which is meant. -/
def tableWord (nbits w : Nat) : Option InstrWord :=
  if nbits < 16 then if w < 0x800 then some (.stim (BitVec.ofNat 11 w)) else none
  else if w < 0x600 then some (.stim (BitVec.ofNat 11 w))
  else if w < 0x10000 then some (.cmd (BitVec.ofNat 16 w)) else none

/-- The instruction the decoder reads from a bare number, in the bit numbering of spec/opcode_table.json. -/
def decodeTableWord (nbits w : Nat) : Option Instr :=
  match tableWord nbits w with
  | none => none
  | some c => (decode c).toOption

end Sys2Proof
end

