-- ==== Sys2Proof/Config.lean ====
section
/-! DEFINITION. The parameters the spec leaves to the implementation (00_scope.md R5, 10_state.md R41), their defaults, and
the free values. Which value the machine takes for each is said in Machine/Params.lean. -/

namespace Sys2Proof

/-- What `DATA_READ` returns while the latch is not valid (00_scope.md R5, 92_eei_decisions.md D4). -/
inductive InvalidLatchRead where
  /-- the stale content of the latch -/
  | stale
  /-- an unconstrained byte -/
  | any
  deriving DecidableEq, Repr

/-- The two modes that read tables, the index of the per-mode masks (00_scope.md R5: `G1`, `TXT`). -/
inductive TableMode where
  | g1
  | txt
  deriving DecidableEq, Repr

/-- The named parameters, fixed for a whole run (00_scope.md R5, 10_state.md R41). -/
structure Params where
  /-- `NT_MASK[m]` -/
  ntMask : TableMode → Byte
  /-- `NT_SHIFT` -/
  ntShift : Nat
  /-- `CT_MASK[G1]` -/
  ctMask : Byte
  /-- `CT_SHIFT` -/
  ctShift : Nat
  /-- `PG_MASK[m]` -/
  pgMask : TableMode → Byte
  /-- `PG_SHIFT` -/
  pgShift : Nat
  /-- `BLANK_HONOURED` -/
  blankHonoured : Bool
  /-- `PIXEL_BITS` -/
  pixelBits : Nat
  /-- `PALETTE` -/
  palette : Colour → Pixel pixelBits
  /-- `INVALID_LATCH_READ` -/
  invalidLatchRead : InvalidLatchRead

/-- The default `PALETTE`, `0x00RRGGBB`, for the default `PIXEL_BITS` (42_mode_renderer.md R204; not normative). -/
def defaultPalette (c : Colour) : Pixel 32 :=
  match c.toNat with
  | 0 => 0x00000000#32
  | 1 => 0x00000000#32
  | 2 => 0x0021C842#32
  | 3 => 0x005EDC78#32
  | 4 => 0x005455ED#32
  | 5 => 0x007D76FC#32
  | 6 => 0x00D4524D#32
  | 7 => 0x0042EBF5#32
  | 8 => 0x00FC5554#32
  | 9 => 0x00FF7978#32
  | 10 => 0x00D4C154#32
  | 11 => 0x00E6CE80#32
  | 12 => 0x0021B03B#32
  | 13 => 0x00C95BBA#32
  | 14 => 0x00CCCCCC#32
  | _ => 0x00FFFFFF#32

/-- Every parameter at the spec's default or recommended value (00_scope.md R5). The test vectors of 95_test_vectors.md
use these. -/
def Params.default : Params where
  ntMask := fun m => match m with | .g1 => 0x0F#8 | .txt => 0x0F#8
  ntShift := 10
  ctMask := 0xFF#8
  ctShift := 6
  pgMask := fun m => match m with | .g1 => 0x07#8 | .txt => 0x07#8
  pgShift := 11
  blankHonoured := true
  pixelBits := 32
  palette := defaultPalette
  invalidLatchRead := .stale

/-- Whether the renderer honours the blanking bit: OPEN in the spec (00_scope.md R5, D16), so no proof may know it.
DESIGN CHOICE, log entry 6, safe. -/
opaque Config.blankHonoured : Bool

/-- `PIXEL_BITS`, the width of a packed pixel: OPEN in the spec (00_scope.md R5, 93_implementation_defined.md U5, D19), so no
proof may know it. DESIGN CHOICE, log entry 7, safe. -/
opaque Config.pixelBits : Nat

/-- The packed pixel of each colour code: OPEN in the spec (00_scope.md R5, 42_mode_renderer.md R203, D19), so no proof may
know it. DESIGN CHOICE, log entry 7, safe. -/
opaque Config.palette : Colour → Pixel Config.pixelBits

/-- The unconstrained byte of `INVALID_LATCH_READ = any`, a fresh one for each byte handed to the host
(41_port_state_machine.md R156). DESIGN CHOICE, log entry 5. -/
opaque Config.invalidLatchByte : Nat → Byte

end Sys2Proof
end

