-- ==== Sys2Proof/Machine/State.lean ====
section
/-! DEFINITION. The state of the core (10_state.md R20), the two host channels a step reads and writes, the reasons a step
can stop, and the state after reset (10_state.md R42). -/

namespace Sys2Proof.Machine

/-- VRAM as a list of (address, byte) pairs, addresses strictly rising, none equal to `unwrittenByte`. -/
abbrev Memory := List Host.Cell

/-- What a VRAM cell that is not listed holds: 0x00, its value at reset (10_state.md R21). -/
def unwrittenByte : Byte := 0x00#8

/-- The canonical form: addresses strictly rising and inside VRAM, no cell listed with the value of an unlisted one. -/
abbrev Memory.wf (m : Memory) : Prop :=
  m.Pairwise (fun c d => c.1 < d.1) ∧ ∀ c ∈ m, c.1 < 16384 ∧ c.2 ≠ unwrittenByte

/-- A frame: width, height and `width * height` packed pixels of `bits` bits in row-major order (10_state.md R40). -/
structure Frame (bits : Nat) where
  width : Nat
  height : Nat
  px : List (Pixel bits)
  deriving DecidableEq, Repr

/-- The state. The first nine fields are the spec's (10_state.md R20); the last two are the model's own, the channels
between host and core (DESIGN CHOICE, log entries 1 and 2). -/
structure State where
  /-- `VRAM`, 16384 bytes (10_state.md R21) -/
  vram : Memory
  /-- `R[0]` to `R[7]` (10_state.md R22 to R31) -/
  regs : Vector Byte 8
  /-- `STATUS` (10_state.md R32) -/
  status : Byte
  /-- `PTR`, the address pointer (10_state.md R34) -/
  ptr : Addr
  /-- `PENDING`: a first control byte awaits its second (10_state.md R35) -/
  pending : Bool
  /-- `FIRST`, the first byte of a control pair (10_state.md R36) -/
  first : Byte
  /-- `LATCH`, the read-ahead latch (10_state.md R37) -/
  latch : Byte
  /-- `LATCH_VALID` (10_state.md R38) -/
  latchValid : Bool
  /-- `FB`, absent until the first `RENDER`; its pixels are of `PIXEL_BITS` bits (10_state.md R20, R40) -/
  fb : Option (Frame Config.pixelBits)
  /-- the stimuli the host has issued and the core has not yet taken, oldest first (00_scope.md R6, R7) -/
  inputs : List StimWord
  /-- the bytes handed to the host so far, oldest first (00_scope.md R10, `return v`) -/
  outputs : List Byte
  deriving DecidableEq, Repr

/-- The reasons a step stops with a fault: there are none. "The set of exception causes is empty" (60_exceptions.md R220). -/
inductive Fault where
  deriving DecidableEq, Repr

/-- The reasons a step is refused. -/
inductive Refusal where
  /-- Raised by an arm of exec whose instruction has no meaning yet. No arm raises it: every instruction has one. Safe. -/
  | notModelled (mnemonic : String)
  /-- Raised by step when the word the host issued has selector 6 or 7, which name no stimulus (30_encoding.md R98,
  93_implementation_defined.md U11: "refuse"). Safe: nothing is claimed of what follows. -/
  | namesNoStimulus (sel : BitVec 3)
  deriving DecidableEq, Repr

/-- The machine right after reset (10_state.md R42, 70_reset_and_hazards.md R250). The spec's own choices among these
values are in log entry 12; the host channels are empty, log entries 1 and 2. -/
def State.reset : State where
  vram := []
  regs := Vector.replicate 8 0x00#8
  status := 0x00#8
  ptr := 0x0000#14
  pending := false
  first := 0x00#8
  latch := 0x00#8
  latchValid := false
  fb := none
  inputs := []
  outputs := []

end Sys2Proof.Machine
end

