-- ==== Sys2Proof/Machine/Ops.lean ====
section
/-! DEFINITION. The named operations over VRAM, the control registers, the pointer, the latches, the framebuffer and the
host channels. There is no operation that takes an exception and none that returns from one: the core raises none
(60_exceptions.md R220), "saves no state, switches no mode or stack, and transfers control nowhere" (R225, R226). -/

namespace Sys2Proof.Machine

/-- The byte listed at an address, or what an unlisted address holds. -/
def Memory.read : Memory → Nat → Byte
  | [], _ => unwrittenByte
  | c :: m, a => if c.1 = a then c.2 else Memory.read m a

/-- Puts a cell before the first one with a greater address. -/
def Memory.insert : Memory → Nat → Byte → Memory
  | [], a, v => [(a, v)]
  | c :: m, a, v => if a < c.1 then (a, v) :: c :: m else c :: Memory.insert m a v

/-- Replaces the byte at an address; a byte equal to what an unlisted address holds is not listed. -/
def Memory.write (m : Memory) (a : Nat) (v : Byte) : Memory :=
  let others := m.filter (fun c => c.1 != a)
  if v = unwrittenByte then others else Memory.insert others a v

/-- `MemRead(a, 1)`: the address is reduced modulo 16384 (20_memory.md R61). -/
def State.vramRead (s : State) (a : Nat) : Byte := Memory.read s.vram (a % 16384)

/-- `MemWrite(a, 1, v)`: one cell changes, at the address reduced modulo 16384 (20_memory.md R61, R62). -/
def State.vramWrite (s : State) (a : Nat) (v : Byte) : State :=
  { s with vram := Memory.write s.vram (a % 16384) v }

/-- `R[i]` (00_scope.md R10). -/
def State.reg (s : State) (i : Fin 8) : Byte := s.regs[i]

/-- `RegWrite(i, v)`: all 8 bits are stored (40_register_file.md R120, 10_state.md R23). -/
def State.writeReg (s : State) (i : Fin 8) (v : Byte) : State :=
  { s with regs := s.regs.set i v }

/-- `PTR <- a` (10_state.md R34). -/
def State.setPtr (s : State) (a : Addr) : State := { s with ptr := a }

/-- `PTR <- (PTR + 1) mod 16384` (10_state.md R34). -/
def State.advancePtr (s : State) : State := s.setPtr (s.ptr + 1#14)

/-- The read-ahead fetch: `LATCH <- MemRead(PTR, 1)`, `LATCH_VALID <- 1` (10_state.md R37, R38). -/
def State.fetchLatch (s : State) : State :=
  { s with latch := s.vramRead s.ptr.toNat, latchValid := true }

/-- `LATCH_VALID <- 0`; the latch keeps its byte (10_state.md R38). -/
def State.invalidateLatch (s : State) : State := { s with latchValid := false }

/-- `FIRST <- b`, `PENDING <- 1` (10_state.md R35, R36). -/
def State.holdFirst (s : State) (b : Byte) : State := { s with first := b, pending := true }

/-- `PENDING <- 0`; `FIRST` keeps its byte (10_state.md R35, R36). -/
def State.clearPending (s : State) : State := { s with pending := false }

/-- `return v`: the byte is handed to the host (00_scope.md R10). -/
def State.reply (s : State) (v : Byte) : State := { s with outputs := s.outputs ++ [v] }

/-- `FB <- f`: the whole frame is replaced (42_mode_renderer.md R184). -/
def State.showFrame (s : State) (f : Frame Config.pixelBits) : State := { s with fb := some f }

/-- The stimuli the host has issued become `ws`. -/
def State.setInputs (s : State) (ws : List StimWord) : State := { s with inputs := ws }

/-- The pixel the host sees at column `x`, row `y`: `px[y*W + x]` (42_mode_renderer.md R184). Before the first `RENDER` and
outside the frame no pixel exists (93_implementation_defined.md U2). -/
def State.pixel (s : State) (x y : Nat) : Option (Pixel Config.pixelBits) :=
  match s.fb with
  | none => none
  | some f => if x < f.width ∧ y < f.height then f.px[y * f.width + x]? else none

end Sys2Proof.Machine
end

