-- ==== Sys2Proof/Machine/Params.lean ====
section
/-! DEFINITION. The parameter values this machine takes. -/

namespace Sys2Proof.Machine

/-- The machine's parameters (00_scope.md R5): the spec's defaults for the table masks, the shifts and
`INVALID_LATCH_READ` (log entries 5 and 8); the three that the spec marks OPEN, `BLANK_HONOURED`, `PIXEL_BITS` and `PALETTE`,
stay free values (log entries 6 and 7). -/
abbrev params : Params :=
  { Params.default with
    blankHonoured := Config.blankHonoured, pixelBits := Config.pixelBits, palette := Config.palette }

end Sys2Proof.Machine
end

