-- ==== Sys2Proof/Machine/Operands.lean ====
section
/-! DEFINITION. The decoders of the register file (40_register_file.md R123 to R131): pure functions of the control
registers and the parameters. The bit positions are the spec's decisions D13 and D15 (PRESUMED, log entry 9), the masks and
shifts its decision D14 (log entry 8). -/

namespace Sys2Proof.Machine

/-- What the mode bits say (40_register_file.md R123). -/
inductive VideoMode where
  | graphics1
  | text
  | unsupported
  deriving DecidableEq, Repr

/-- What the renderer draws (40_register_file.md R130). -/
inductive FrameMode where
  | graphics1
  | text
  | blank
  deriving DecidableEq, Repr

/-- `M1 = R[1][4]` (10_state.md R25). -/
def State.m1 (s : State) : Bool := (s.reg 1).getLsbD 4

/-- `M2 = R[1][3]` (10_state.md R25). -/
def State.m2 (s : State) : Bool := (s.reg 1).getLsbD 3

/-- `M3 = R[0][1]` (10_state.md R24). -/
def State.m3 (s : State) : Bool := (s.reg 0).getLsbD 1

/-- `Mode()` (40_register_file.md R123). -/
def State.mode (s : State) : VideoMode :=
  match s.m1, s.m2, s.m3 with
  | false, false, false => .graphics1
  | true, false, false => .text
  | _, _, _ => .unsupported

/-- `((R & MASK) << SHIFT) mod 16384`, the shape of the three table bases (92_eei_decisions.md D14). -/
def tableBase (r mask : Byte) (shift : Nat) : Addr :=
  BitVec.ofNat 14 ((r &&& mask).toNat <<< shift)

/-- The name-table base in the mode `m` (40_register_file.md R124), whatever mode the registers select (log entry 23). -/
def State.nameBaseIn (p : Params) (m : TableMode) (s : State) : Addr :=
  tableBase (s.reg 2) (p.ntMask m) p.ntShift

/-- The pattern-generator table base in the mode `m` (40_register_file.md R125), whatever mode the registers select (log entry
23). -/
def State.patternBaseIn (p : Params) (m : TableMode) (s : State) : Addr :=
  tableBase (s.reg 4) (p.pgMask m) p.pgShift

/-- `ColourBase()`, for Graphics I (40_register_file.md R126). The spec defines it for that mode only; that it has the same
value in every mode here is the model's choice (DESIGN CHOICE, log entry 23), and the renderer reads it in Graphics I alone. -/
def State.colourBase (p : Params) (s : State) : Addr :=
  tableBase (s.reg 3) p.ctMask p.ctShift

/-- `NameBase()`: defined when `Mode()` is `Graphics1` or `Text` (40_register_file.md R124). -/
def State.nameBase (p : Params) (s : State) : Option Addr :=
  match s.mode with
  | .graphics1 => some (s.nameBaseIn p .g1)
  | .text => some (s.nameBaseIn p .txt)
  | .unsupported => none

/-- `PatternBase()`: defined when `Mode()` is `Graphics1` or `Text` (40_register_file.md R125). -/
def State.patternBase (p : Params) (s : State) : Option Addr :=
  match s.mode with
  | .graphics1 => some (s.patternBaseIn p .g1)
  | .text => some (s.patternBaseIn p .txt)
  | .unsupported => none

/-- `TextFg() = R[7][7:4]` (40_register_file.md R127). -/
def State.textFg (s : State) : Colour := (s.reg 7).extractLsb' 4 4

/-- `Backdrop() = R[7][3:0]` (40_register_file.md R127). -/
def State.backdrop (s : State) : Colour := (s.reg 7).extractLsb' 0 4

/-- `DisplayEnabled() = R[1][6]` (40_register_file.md R128). -/
def State.displayEnabled (s : State) : Bool := (s.reg 1).getLsbD 6

/-- `IntEnabled() = R[1][5]` (40_register_file.md R129). -/
def State.intEnabled (s : State) : Bool := (s.reg 1).getLsbD 5

/-- `EffectiveMode()` (40_register_file.md R130). -/
def State.effectiveMode (p : Params) (s : State) : FrameMode :=
  if !s.displayEnabled && p.blankHonoured then .blank
  else
    match s.mode with
    | .graphics1 => .graphics1
    | .text => .text
    | .unsupported => .blank

end Sys2Proof.Machine
end

