-- ==== Sys2Proof/Machine/Flags.lean ====
section
/-! DEFINITION. The status register's one live bit, the frame flag (10_state.md R32, 60_exceptions.md R221), and the
interrupt output derived from it. -/

namespace Sys2Proof.Machine

/-- The frame flag `F = STATUS[7]` (10_state.md R32). -/
def State.frameFlag (s : State) : Bool := s.status.getLsbD 7

/-- `SetFrameFlag()`: `STATUS[7] <- 1` (40_register_file.md R122). -/
def State.setFrameFlag (s : State) : State := { s with status := s.status ||| 0x80#8 }

/-- `STATUS[7] <- 0`, the side effect of `StatusRead()`; bits 6:0 are untouched (40_register_file.md R121). -/
def State.clearFrameFlag (s : State) : State := { s with status := s.status &&& 0x7F#8 }

/-- The output `INT = STATUS[7] and R[1][5]`, a pure function of the state (60_exceptions.md R222). The equation is the
spec's decision D24: PRESUMED, log entry 18. -/
def State.intOutput (s : State) : Bool := s.frameFlag && s.intEnabled

end Sys2Proof.Machine
end

