-- ==== Sys2Proof/Machine/ControlPort.lean ====
section
/-! DEFINITION. The control port: the commands `SET_ADDR` and `REG_WRITE`, the stimulus `CTRL_WRITE` that completes them,
and `STATUS_READ` (41_port_state_machine.md R150 to R154). -/

namespace Sys2Proof.Machine

/-- `SET_ADDR A` (41_port_state_machine.md R152): the pre-fetch does not advance the pointer (90_conflicts.md C1). -/
def execSetAddr (a : Addr) (s : State) : Host.Outcome State Fault Refusal :=
  .next (s.setPtr a).fetchLatch

/-- `REG_WRITE r, v` (41_port_state_machine.md R153). -/
def execRegWrite (r : Fin 8) (v : Byte) (s : State) : Host.Outcome State Fault Refusal :=
  .next (s.writeReg r v)

/-- What a completed pair does: the second level of the decoder (30_encoding.md R109), on the word of the pair. -/
def runCommand (w : CmdWord) (s : State) : Host.Outcome State Fault Refusal :=
  if cmdIsRegWrite w then execRegWrite (cmdReg w) (cmdValue w) s else execSetAddr (cmdAddr w) s

/-- `CTRL_WRITE b` (41_port_state_machine.md R151): a first byte is held, a second byte completes the pair. -/
def execCtrlWrite (b : Byte) (s : State) : Host.Outcome State Fault Refusal :=
  if s.pending then runCommand (cmdWord s.first b) s.clearPending else .next (s.holdFirst b)

/-- `STATUS_READ` (41_port_state_machine.md R154): the status before the clear is returned, the frame flag is cleared and a
pending first byte is abandoned. -/
def execStatusRead (s : State) : Host.Outcome State Fault Refusal :=
  .next (s.reply s.status).clearFrameFlag.clearPending

end Sys2Proof.Machine
end

