-- ==== Sys2Proof/Machine/DataPort.lean ====
section
/-! DEFINITION. The data port: `DATA_WRITE` and `DATA_READ` (41_port_state_machine.md R155, R156). -/

namespace Sys2Proof.Machine

/-- `DATA_WRITE b` (41_port_state_machine.md R155): the cell `PTR` names before the increment; `LATCH` keeps its byte and
is no longer valid (90_conflicts.md C2). -/
def execDataWrite (b : Byte) (s : State) : Host.Outcome State Fault Refusal :=
  .next ((s.vramWrite s.ptr.toNat b).advancePtr.invalidateLatch)

/-- The byte `DATA_READ` returns (41_port_state_machine.md R156): the latch; a free byte only when the latch is not valid
and the parameter `INVALID_LATCH_READ` is `any`. Log entry 5. -/
def State.latchByte (p : Params) (s : State) : Byte :=
  if s.latchValid = true ∨ p.invalidLatchRead = .stale then s.latch
  else Config.invalidLatchByte s.outputs.length

/-- `DATA_READ` (41_port_state_machine.md R156): take the latch, advance, fetch at the advanced pointer. -/
def execDataRead (s : State) : Host.Outcome State Fault Refusal :=
  .next ((s.reply (s.latchByte params)).advancePtr.fetchLatch)

end Sys2Proof.Machine
end

