-- ==== Sys2Proof/Machine/Render.lean ====
section
/-! DEFINITION. The mode renderer (42_mode_renderer.md R180 to R204): the colour code of each pixel in each mode, the frame
built of them, and `RENDER`. The order of cells, lines, bits and nibbles is the spec's decision D20 (PRESUMED, log entry
10). Nothing of the renderer writes VRAM or passes through the read-ahead latch (R200). -/

namespace Sys2Proof.Machine

/-- The width of a frame (42_mode_renderer.md R183). Log entry 11. -/
def frameWidth : FrameMode → Nat
  | .graphics1 => 256
  | .text => 240
  | .blank => 256

/-- The height of a frame, the same in every mode (42_mode_renderer.md R183). -/
def frameHeight : Nat := 192

/-- The name of the Graphics I cell that pixel `(x, y)` lies in (42_mode_renderer.md R185, R186). -/
def State.graphics1Name (p : Params) (s : State) (x y : Nat) : Byte :=
  s.vramRead ((s.nameBaseIn p .g1).toNat + y / 8 * 32 + x / 8)

/-- The line of the pattern `name` shown on row `y` (42_mode_renderer.md R187, R192). -/
def State.patternLine (p : Params) (m : TableMode) (s : State) (name : Byte) (y : Nat) : Byte :=
  s.vramRead ((s.patternBaseIn p m).toNat + name.toNat * 8 + y % 8)

/-- The colour pair of the group of 8 names that `name` belongs to (42_mode_renderer.md R188). -/
def State.colourPair (p : Params) (s : State) (name : Byte) : Byte :=
  s.vramRead ((s.colourBase p).toNat + name.toNat / 8)

/-- The colour code of a Graphics I pixel: bit 7 of the pattern line is the leftmost pixel, a bit of 1 selects the high
nibble of the pair (42_mode_renderer.md R185, R188, R189). -/
def State.graphics1Code (p : Params) (s : State) (x y : Nat) : Colour :=
  let name := s.graphics1Name p x y
  let pair := s.colourPair p name
  if (s.patternLine p .g1 name y).getLsbD (7 - x % 8) then pair.extractLsb' 4 4 else pair.extractLsb' 0 4

/-- The name of the Text cell that pixel `(x, y)` lies in (42_mode_renderer.md R190, R191). -/
def State.textName (p : Params) (s : State) (x y : Nat) : Byte :=
  s.vramRead ((s.nameBaseIn p .txt).toNat + y / 8 * 40 + x / 6)

/-- The colour code of a Text pixel: bits 7 to 2 of the pattern line, left to right (42_mode_renderer.md R190, R193). -/
def State.textCode (p : Params) (s : State) (x y : Nat) : Colour :=
  if (s.patternLine p .txt (s.textName p x y) y).getLsbD (7 - x % 6) then s.textFg else s.backdrop

/-- `Code(m, x, y)` (42_mode_renderer.md R189, R193, R196; R202 has the whole of it). -/
def State.pixelCode (p : Params) (s : State) (m : FrameMode) (x y : Nat) : Colour :=
  match m with
  | .graphics1 => s.graphics1Code p x y
  | .text => s.textCode p x y
  | .blank => s.backdrop

/-- The pixels of a frame of width `w` and height `h`, row by row from the top (42_mode_renderer.md R184). -/
def framePixels {bits : Nat} (w h : Nat) (f : Nat → Nat → Pixel bits) : List (Pixel bits) :=
  (List.range h).flatMap fun y => (List.range w).map fun x => f x y

/-- The frame of the current registers and VRAM, its pixels of the parameters' width (42_mode_renderer.md R180, R181, R203). -/
def State.frame (p : Params) (s : State) : Frame p.pixelBits :=
  let m := s.effectiveMode p
  { width := frameWidth m
    height := frameHeight
    px := framePixels (frameWidth m) frameHeight fun x y => p.palette (s.pixelCode p m x y) }

/-- `RENDER` (42_mode_renderer.md R180, R199). -/
def execRender (s : State) : Host.Outcome State Fault Refusal :=
  .next (s.showFrame (s.frame params)).setFrameFlag

end Sys2Proof.Machine
end

