-- ==== Sys2Proof/Machine/Reset.lean ====
section
/-! DEFINITION. `RESET` (70_reset_and_hazards.md R250). -/

namespace Sys2Proof.Machine

/-- `RESET` (70_reset_and_hazards.md R250): every element of 10_state.md R20 takes its reset value. The host's channels are
not the core's state and stay as they are (DESIGN CHOICE, log entry 13). -/
def execReset (s : State) : Host.Outcome State Fault Refusal :=
  .next { State.reset with inputs := s.inputs, outputs := s.outputs }

end Sys2Proof.Machine
end

