-- ==== Sys2Proof/Machine/Dispatch.lean ====
section
/-! DEFINITION. exec: one arm for each constructor of Instr. -/

namespace Sys2Proof.Machine

def exec (i : Instr) (s : State) : Host.Outcome State Fault Refusal :=
  match i with
  | .dataWrite b => Sys2Proof.Machine.execDataWrite b s
  | .dataRead => Sys2Proof.Machine.execDataRead s
  | .ctrlWrite b => Sys2Proof.Machine.execCtrlWrite b s
  | .statusRead => Sys2Proof.Machine.execStatusRead s
  | .render => Sys2Proof.Machine.execRender s
  | .reset => Sys2Proof.Machine.execReset s
  | .setAddr a => Sys2Proof.Machine.execSetAddr a s
  | .regWrite r v => Sys2Proof.Machine.execRegWrite r v s

end Sys2Proof.Machine
end

