-- ==== Sys2Proof/Machine/Fetch.lean ====
section
/-! DEFINITION. Where the next instruction comes from: the head of the host's queue of stimuli (00_scope.md R6, R7). -/

namespace Sys2Proof.Machine

/-- What stands at the head of the host's queue. -/
inductive Fetched where
  /-- the host has issued nothing -/
  | idle
  /-- a stimulus, and the state with it taken from the queue -/
  | stimulus (i : Instr) (s : State)
  /-- a word that names no stimulus -/
  | invalid (sel : BitVec 3)
  deriving DecidableEq, Repr

/-- Takes the oldest word from the host's queue and decodes it (30_encoding.md R109, first level). -/
def fetch (s : State) : Fetched :=
  match s.inputs with
  | [] => .idle
  | w :: ws =>
    match decodeStim w with
    | .ok i => .stimulus i (s.setInputs ws)
    | .error (.namesNoStimulus sel) => .invalid sel

/-- The state in which the host's next stimulus performs the instruction of the word `c`: a `STIM` word is issued as it is;
a `CMD` word is issued as the second byte of a pair whose first byte the core already holds (30_encoding.md R93, R109).
Log entry 3. -/
def placeWord (c : InstrWord) (s : State) : State :=
  match c with
  | .stim w => s.setInputs (w :: s.inputs)
  | .cmd w => (s.holdFirst (w.extractLsb' 0 8)).setInputs (stimWord 2#3 (w.extractLsb' 8 8) :: s.inputs)

end Sys2Proof.Machine
end

