-- ==== Sys2Proof/Machine/Step.lean ====
section
/-! DEFINITION. One step: the core takes the host's next stimulus and reacts to it (00_scope.md R6, R7). -/

namespace Sys2Proof.Machine

/-- One stimulus is one atomic step (00_scope.md R7). With nothing issued the state does not change: "between stimuli no
state changes" (R6; log entry 1). A word that names no stimulus is refused by name (30_encoding.md R98). -/
def step (s : State) : Host.Outcome State Fault Refusal :=
  match fetch s with
  | .idle => .next s
  | .stimulus i t => exec i t
  | .invalid sel => .refused (.namesNoStimulus sel)

/-- The state whose next step runs the instruction of a bare word in the numbering of spec/opcode_table.json; a number that
is no word of the table is not placed. -/
def State.withFetchWord (s : State) (nbits w : Nat) : State :=
  match tableWord nbits w with
  | none => s
  | some c => placeWord c s

end Sys2Proof.Machine
end

