-- ==== Sys2Proof/Machine/Pseudo.lean ====
section
/-! DEFINITION. The pseudo-operations of host software, as the stimuli they expand into (30_encoding.md R102 to R107), and
the convenience functions built of them (R108, which is outside the core and not normative). -/

namespace Sys2Proof.Machine

/-- `SETADDR A`: the low byte, then the high six bits with bits 7 and 6 zero (30_encoding.md R102). -/
def pseudoSetAddr (a : Addr) : List Instr :=
  [.ctrlWrite (a.extractLsb' 0 8), .ctrlWrite (0b00#2 ++ a.extractLsb' 8 6)]

/-- `SETADDRW A`: the same with bit 6 of the second byte set (30_encoding.md R103). -/
def pseudoSetAddrW (a : Addr) : List Instr :=
  [.ctrlWrite (a.extractLsb' 0 8), .ctrlWrite (0b01#2 ++ a.extractLsb' 8 6)]

/-- `SETREG r, v` (30_encoding.md R104). -/
def pseudoSetReg (r : Fin 8) (v : Byte) : List Instr :=
  [.ctrlWrite v, .ctrlWrite (0x80#8 ||| BitVec.ofNat 8 r.val)]

/-- `VWRITE A, b0, b1, …` (30_encoding.md R105). -/
def pseudoVWrite (a : Addr) (bs : List Byte) : List Instr := pseudoSetAddr a ++ bs.map Instr.dataWrite

/-- `VREAD A, N` (30_encoding.md R106). -/
def pseudoVRead (a : Addr) (n : Nat) : List Instr := pseudoSetAddr a ++ List.replicate n .dataRead

/-- `ACK` (30_encoding.md R107). -/
def pseudoAck : List Instr := [.statusRead]

/-- "set mode": the two mode registers, then the table bases and the colours (30_encoding.md R108). -/
def hostSetMode (v0 v1 v2 v3 v4 v7 : Byte) : List Instr :=
  pseudoSetReg 0 v0 ++ pseudoSetReg 1 v1 ++ pseudoSetReg 2 v2 ++ pseudoSetReg 3 v3 ++ pseudoSetReg 4 v4 ++ pseudoSetReg 7 v7

/-- "load font/pattern table" from character `c` on, with the pattern table at `pg` (30_encoding.md R108). -/
def hostLoadPatterns (pg c : Nat) (ps : List Byte) : List Instr := pseudoVWrite (BitVec.ofNat 14 (pg + 8 * c)) ps

/-- "write string" at a cell, with the name table at `nt` and `cols` cells a row; a string of one character is "write
character at position" (30_encoding.md R108). -/
def hostWriteString (nt cols row col : Nat) (cs : List Byte) : List Instr :=
  pseudoVWrite (BitVec.ofNat 14 (nt + row * cols + col)) cs

end Sys2Proof.Machine
end

