-- ==== Sys2Proof/Safety.lean ====
section
/-! DEFINITION. What every state of a run satisfies (10_state.md R44), and what a run of the core is. -/

namespace Sys2Proof.Machine

/-- A frame of one of the two sizes, with all its pixels (10_state.md R44). -/
abbrev Frame.sized {bits : Nat} (f : Frame bits) : Prop :=
  ((f.width = 256 ∧ f.height = 192) ∨ (f.width = 240 ∧ f.height = 192)) ∧ f.px.length = f.width * f.height

/-- The invariants of 10_state.md R44 that the types do not already hold, and the canonical form of VRAM. -/
structure State.Inv (s : State) : Prop where
  /-- VRAM is in its canonical form -/
  vram : Memory.wf s.vram
  /-- `STATUS` is 0x00 or 0x80 -/
  status : s.status = 0x00#8 ∨ s.status = 0x80#8
  /-- `FB` is absent or a whole frame of one of the two sizes -/
  fb : ∀ f, s.fb = some f → f.sized
  /-- `LATCH_VALID = 1` implies `LATCH = VRAM[PTR]` -/
  latch : s.latchValid = true → s.latch = s.vramRead s.ptr.toNat

/-- A safe outcome is a next state that satisfies the invariants: nothing faults and nothing is refused. -/
def safeOutcome : Host.Outcome State Fault Refusal → Prop
  | .next s => s.Inv
  | .fault _ => False
  | .refused _ => False

/-- The stimuli `is` performed one after another. A command is performed as such. -/
def execAll : List Instr → State → Host.Outcome State Fault Refusal
  | [], s => .next s
  | i :: is, s =>
    match exec i s with
    | .next t => execAll is t
    | .fault f => .fault f
    | .refused r => .refused r

/-- A state some run reaches: reset, the host issuing any words at any time, and steps (10_state.md R42, R44). -/
inductive Reachable : State → Prop where
  | reset : Reachable State.reset
  | issued (s : State) (ws : List StimWord) : Reachable s → Reachable (s.setInputs ws)
  | stepped (s t : State) : Reachable s → step s = .next t → Reachable t

end Sys2Proof.Machine
end

