-- ==== Sys2Proof/Certificates/Slice0/Obligations.lean ====
section
/-! DEFINITION. The statements about this machine. Each names the rule of spec/ it formalises, or the sections it rests on;
where a clause rests on a choice of the model or on a decision the spec marks as its own, the docstring says so. -/

open Sys2Proof Sys2Proof.Machine

/-! ### Encoding -/

/-- Decode and encode agree on every instruction and every operand value (30_encoding.md R90 to R96, R109; that the encoder
writes 0 in ignored bits is log entry 16). -/
def Obligations.DecodingAnEncodedInstructionGivesItBack : Prop :=
  ∀ i : Instr, Instr.wellFormed i = true →
    InstrWord.wellFormed (encode i) = true ∧ decode (encode i) = .ok i

/-- The other direction: the word an instruction was decoded from is its encoding, but for the ignored bits, which the encoder
writes as 0. Which bits are ignored is the spec's decisions D1 and D7 (30_encoding.md R92, R97; log entry 16); that they are
written as 0 is the model's own choice (log entry 16, DESIGN CHOICE). -/
def Obligations.EncodingADecodedWordDropsOnlyIgnoredBits : Prop :=
  ∀ (w : InstrWord) (i : Instr), decode w = .ok i → encode i = canonicalWord w

/-- The selector names the stimulus, and the four stimuli that carry no byte ignore the data field (30_encoding.md R91, R92,
R98, the spec's decision D1). -/
def Obligations.SelectorNamesTheStimulus : Prop :=
  ∀ d : Byte,
    decodeStim (0#3 ++ d) = .ok (.dataWrite d) ∧ decodeStim (1#3 ++ d) = .ok .dataRead ∧
    decodeStim (2#3 ++ d) = .ok (.ctrlWrite d) ∧ decodeStim (3#3 ++ d) = .ok .statusRead ∧
    decodeStim (4#3 ++ d) = .ok .render ∧ decodeStim (5#3 ++ d) = .ok .reset ∧
    decodeStim (6#3 ++ d) = .error (.namesNoStimulus 6#3) ∧ decodeStim (7#3 ++ d) = .error (.namesNoStimulus 7#3)

/-- Bit 7 of the second byte alone selects the command, and the command's fields are their bit ranges (30_encoding.md R94,
R95, R96), whatever the ignored bits are: that `second[6]` of a `SET_ADDR` and `second[6:3]` of a `REG_WRITE` play no part is
the spec's decision D7 (R97; log entry 16, DESIGN CHOICE). -/
def Obligations.PairBytesFormTheCommand : Prop :=
  ∀ first second : Byte,
    (second.getLsbD 7 = false → decodeCmd (second ++ first) = .setAddr (second.extractLsb' 0 6 ++ first)) ∧
    (second.getLsbD 7 = true → decodeCmd (second ++ first) = .regWrite (second.extractLsb' 0 3).toFin first)

/-- The decoder accepts exactly the well-formed words, and a word it rejects is a `STIM` word of selector 6 or 7
(30_encoding.md R94, R98, R99, the spec's decision D1). -/
def Obligations.OnlySelectorsSixAndSevenAreRejected : Prop :=
  ∀ w : InstrWord,
    ((∃ i, decode w = .ok i) ↔ InstrWord.wellFormed w = true) ∧
    ∀ sel, decode w = .error (.namesNoStimulus sel) → sel.toNat = 6 ∨ sel.toNat = 7

/-- A decoded word lies in its instruction's row of the opcode table and in no row of another mnemonic (30_encoding.md
R109). -/
def Obligations.DecodingFollowsTheOpcodeTable : Prop :=
  (∀ w i, decode w = .ok i → inRow w (opcodeRow i) = true) ∧
  ∀ w i j, inRow w (opcodeRow i) = true → inRow w (opcodeRow j) = true →
    (opcodeRow i).mnemonic = (opcodeRow j).mnemonic

/-- Words written out from the spec's encodings decode to the instruction they stand for (30_encoding.md R91, R96;
95_test_vectors.md V1). -/
def Obligations.WrittenOutWordsDecode : Prop :=
  decodeStim 0b00010100101#11 = .ok (.dataWrite 0xA5#8) ∧ decodeStim 0b00111111111#11 = .ok .dataRead ∧
  decodeStim 0b01001000001#11 = .ok (.ctrlWrite 0x41#8) ∧ decodeStim 0b01101111110#11 = .ok .statusRead ∧
  decodeStim 0b10000000000#11 = .ok .render ∧ decodeStim 0b10100000000#11 = .ok .reset ∧
  decodeCmd 0b0101001000110100#16 = .setAddr 0x1234#14 ∧ decodeCmd 0b1111101101000001#16 = .regWrite 3 0x41#8

/-! ### The step -/

/-- A step performs the stimulus at the head of the host's queue with that stimulus taken from the queue; with an empty
queue nothing changes; a word of selector 6 or 7 is refused by name. The queue is the model's, log entry 1. -/
def Obligations.StepRunsTheDecodedStimulus : Prop :=
  ∀ s : State,
    (s.inputs = [] → step s = .next s) ∧
    (∀ w ws i, s.inputs = w :: ws → decodeStim w = .ok i → step s = exec i { s with inputs := ws }) ∧
    (∀ w ws sel, s.inputs = w :: ws → decodeStim w = .error (.namesNoStimulus sel) →
      step s = .refused (.namesNoStimulus sel))

/-- The second level of the decoder: a `CTRL_WRITE` that finds a pending first byte performs the command the two bytes
decode to, with `PENDING` cleared (30_encoding.md R93, R109; 41_port_state_machine.md R151). -/
def Obligations.StepRunsTheCommandOfACompletedPair : Prop :=
  ∀ (s : State) (w : StimWord) (ws : List StimWord) (b : Byte),
    s.inputs = w :: ws → decodeStim w = .ok (.ctrlWrite b) → s.pending = true →
    step s = exec (decodeCmd (b ++ s.first)) { s with inputs := ws, pending := false }

/-- A word of the opcode table placed for the next step is what the next step runs. The placing is the model's, log entries
3 and 4. -/
def Obligations.PlacedTableWordRunsNext : Prop :=
  ∀ (s : State) (nbits w : Nat),
    (∀ c, tableWord nbits w = some (.stim c) → ∀ i, decodeStim c = .ok i → step (s.withFetchWord nbits w) = exec i s) ∧
    (∀ c, tableWord nbits w = some (.cmd c) →
      step (s.withFetchWord nbits w) = exec (decodeCmd c) { s with first := c.extractLsb' 0 8, pending := false })

/-- Every instruction completes in every state, and a step is refused only of a word that names no stimulus (00_scope.md R7,
60_exceptions.md R220). -/
def Obligations.EveryStimulusCompletesInEveryState : Prop :=
  (∀ (i : Instr) (s : State), ∃ t, exec i s = .next t) ∧
  ∀ s : State, (∀ w ws, s.inputs = w :: ws → StimWord.wellFormed w = true) → ∃ t, step s = .next t

/-- The stimuli take effect one after another in the order they were issued, and what is still queued plays no part in what
they do (00_scope.md R7, 20_memory.md R71). The queue is the model's, log entry 1. -/
def Obligations.RunPerformsTheIssuedStimuliInOrder : Prop :=
  ∀ (is : List Instr) (ws rest : List StimWord) (s : State),
    List.Forall₂ (fun w i => decodeStim w = .ok i) ws is →
    ∃ t, execAll is s = .next t ∧
      Host.Core.run core ws.length (s.setInputs (ws ++ rest)) = .next (t.setInputs rest)

/-! ### VRAM and the data port -/

/-- A VRAM write changes one cell, to exactly the byte written, and addresses count modulo 16384 (20_memory.md R62, R63). -/
def Obligations.VramWriteChangesOneCellModulo16384 : Prop :=
  ∀ (s : State) (a b k : Nat) (v : Byte),
    (s.vramWrite a v).vramRead b = (if b % 16384 = a % 16384 then v else s.vramRead b) ∧
    (s.vramWrite a v).vramRead a = v ∧ (s.vramWrite a v).vramRead (a + 16384) = v ∧
    s.vramRead (a + 16384 * k) = s.vramRead a

/-- Canonical memories that read alike are equal data: the state holds VRAM in one form only (10_state.md R21; the form is
log entry 21). -/
def Obligations.CanonicalMemoriesThatReadAlikeAreEqual : Prop :=
  ∀ m n : Memory, Memory.wf m → Memory.wf n → (∀ a, Memory.read m a = Memory.read n a) → m = n

/-- `DATA_WRITE b` (41_port_state_machine.md R155): the effect and the frame. That `LATCH` is kept while `LATCH_VALID` is
cleared is the spec's decision D3 (log entry 15, DEDUCED), that a pending pair is left alone its decision D9 (log entry 17,
DEDUCED). -/
def Obligations.DataWriteStoresAtThePointerAndAdvances : Prop :=
  ∀ (s : State) (b : Byte), ∃ t, exec (.dataWrite b) s = .next t ∧
    (∀ a, t.vramRead a = if a % 16384 = s.ptr.toNat then b else s.vramRead a) ∧
    t.ptr.toNat = (s.ptr.toNat + 1) % 16384 ∧ t.latchValid = false ∧ t.latch = s.latch ∧
    t = { s with vram := t.vram, ptr := t.ptr, latchValid := t.latchValid }

/-- `DATA_READ` (41_port_state_machine.md R156): the effect and the frame. The byte returned is said where the latch is valid or
the machine's `INVALID_LATCH_READ` is `stale`, and left open otherwise. That the pointer advances before the fetch and that
the re-fetch marks the latch valid are the spec's decisions D2 and D6 (log entry 14, DEDUCED), that a pending pair is left
alone its decision D9 (log entry 17, DEDUCED). -/
def Obligations.DataReadReturnsTheLatchAndRefetches : Prop :=
  ∀ s : State, ∃ v t, exec .dataRead s = .next t ∧
    (s.latchValid = true ∨ params.invalidLatchRead = .stale → v = s.latch) ∧ t.outputs = s.outputs ++ [v] ∧
    t.ptr.toNat = (s.ptr.toNat + 1) % 16384 ∧ t.latch = s.vramRead (s.ptr.toNat + 1) ∧ t.latchValid = true ∧
    t = { s with ptr := t.ptr, latch := t.latch, latchValid := t.latchValid, outputs := t.outputs }

/-- The byte of `DATA_READ` is the latch even when it is not valid. This is the model's choice of the spec's decision D4,
log entry 5; it says so of this machine and of no other value of the parameter. -/
def Obligations.DataReadReturnsTheLatchEvenWhenStale : Prop :=
  ∀ s : State, ∃ t, exec .dataRead s = .next t ∧ t.outputs = s.outputs ++ [s.latch]

/-- Read streaming (41_port_state_machine.md R157, derived by the spec from R152 and R156): `SET_ADDR A` and `n` reads
return the `n` bytes from `A` on; the frame. The order of advance and fetch is the spec's decision D2 (log entry 14, DEDUCED),
that a pending pair is left alone its decision D9 (log entry 17, DEDUCED). -/
def Obligations.ReadsAfterSetAddrStreamVram : Prop :=
  ∀ (s : State) (a : Addr) (n : Nat), ∃ t, execAll (.setAddr a :: List.replicate n .dataRead) s = .next t ∧
    t.outputs = s.outputs ++ (List.range n).map (fun k => s.vramRead (a.toNat + k)) ∧
    t.ptr.toNat = (a.toNat + n) % 16384 ∧ t.latch = s.vramRead (a.toNat + n) ∧ t.latchValid = true ∧
    t = { s with ptr := t.ptr, latch := t.latch, latchValid := t.latchValid, outputs := t.outputs }

/-- Write run (41_port_state_machine.md R158, derived by the spec from R155), for runs of any length: each cell holds the
last byte written to it, a cell outside the run is unchanged, and the pointer wraps; the frame. That `LATCH` is kept while
`LATCH_VALID` is cleared is the spec's decision D3 (log entry 15, DEDUCED), that a pending pair is left alone its decision D9
(log entry 17, DEDUCED). -/
def Obligations.WriteRunStoresConsecutively : Prop :=
  ∀ (s : State) (bs : List Byte), bs ≠ [] → ∃ t, execAll (bs.map Instr.dataWrite) s = .next t ∧
    (∀ k (h : k < bs.length), bs.length ≤ k + 16384 → t.vramRead (s.ptr.toNat + k) = bs[k]) ∧
    (∀ a, (∀ k, k < bs.length → (s.ptr.toNat + k) % 16384 ≠ a % 16384) → t.vramRead a = s.vramRead a) ∧
    t.ptr.toNat = (s.ptr.toNat + bs.length) % 16384 ∧ t.latchValid = false ∧
    t = { s with vram := t.vram, ptr := t.ptr, latchValid := t.latchValid }

/-- Bytes written from an address on are read back in order from that address on (41_port_state_machine.md R157, R158;
95_test_vectors.md S3). The order of advance and fetch is the spec's decision D2 (log entry 14, DEDUCED). -/
def Obligations.WrittenRunReadsBackInOrder : Prop :=
  ∀ (s : State) (a : Addr) (bs : List Byte), bs.length ≤ 16384 → ∃ t,
    execAll (.setAddr a :: bs.map Instr.dataWrite ++ .setAddr a :: List.replicate bs.length .dataRead) s = .next t ∧
    t.outputs = s.outputs ++ bs

/-- The latch is a copy: after `SET_ADDR A`, a write changes the cell and not the latch, and the read after it returns the
old byte, while the cell between is neither written nor returned (41_port_state_machine.md R160, 20_memory.md R75). Where the
write lands and which bytes the pointer and the re-fetch reach is the spec's reading of a contradictory source (C1, decision
D2; log entry 14, DEDUCED), that the write keeps the latch its decision D3 (C2; log entry 15, DEDUCED), that the stale byte is
returned the model's choice of its decision D4 (log entry 5, DESIGN CHOICE). -/
def Obligations.ReadAfterWriteReturnsTheStaleLatch : Prop :=
  ∀ (s : State) (a : Addr) (b : Byte), ∃ t, execAll [.setAddr a, .dataWrite b, .dataRead] s = .next t ∧
    t.outputs = s.outputs ++ [s.vramRead a.toNat] ∧ t.vramRead a.toNat = b ∧
    t.vramRead (a.toNat + 1) = s.vramRead (a.toNat + 1) ∧ t.ptr = a + 2#14 ∧ t.latch = s.vramRead (a.toNat + 2)

/-! ### The control port -/

/-- `CTRL_WRITE b` (41_port_state_machine.md R151): a first byte is held, a second byte completes the pair. The ignored bits of
the second byte are the spec's decision D7 (log entry 16, DESIGN CHOICE), the pre-fetch without an advance its decision D2
(log entry 14, DEDUCED), and that a register write leaves the data path alone its decision D8 (log entry 17, DEDUCED). -/
def Obligations.CtrlWriteHoldsAByteThenResolvesThePair : Prop :=
  ∀ (s : State) (b : Byte),
    (s.pending = false → exec (.ctrlWrite b) s = .next { s with first := b, pending := true }) ∧
    (s.pending = true → b.getLsbD 7 = false → ∃ a : Addr, a.toNat = b.toNat % 64 * 256 + s.first.toNat ∧
      exec (.ctrlWrite b) s = exec (.setAddr a) { s with pending := false } ∧
      exec (.ctrlWrite b) s =
        .next { s with pending := false, ptr := a, latch := s.vramRead a.toNat, latchValid := true }) ∧
    (s.pending = true → b.getLsbD 7 = true → ∃ r : Fin 8, r.val = b.toNat % 8 ∧
      exec (.ctrlWrite b) s = exec (.regWrite r s.first) { s with pending := false } ∧
      exec (.ctrlWrite b) s = .next { s with pending := false, regs := s.regs.set r s.first })

/-- `SET_ADDR A` (41_port_state_machine.md R152): the effect and the frame. That the pre-fetch does not advance the pointer is the
spec's reading of a source that contradicts itself (90_conflicts.md C1, decision D2; log entry 14, DEDUCED). -/
def Obligations.SetAddrLoadsThePointerAndPrefetches : Prop :=
  ∀ (s : State) (a : Addr), exec (.setAddr a) s =
    .next { s with ptr := a, latch := s.vramRead a.toNat, latchValid := true }

/-- `REG_WRITE r, v` (41_port_state_machine.md R153, 40_register_file.md R120): all 8 bits of one register; the frame. That
`PTR`, `LATCH` and `LATCH_VALID` are left alone is the spec's decision D8 (log entry 17, DEDUCED). -/
def Obligations.RegWriteChangesOneRegister : Prop :=
  ∀ (s : State) (r : Fin 8) (v : Byte), ∃ t, exec (.regWrite r v) s = .next t ∧
    t.reg r = v ∧ (∀ j, j ≠ r → t.reg j = s.reg j) ∧ t = { s with regs := t.regs }

/-- `STATUS_READ` (41_port_state_machine.md R154, 40_register_file.md R121): the byte before the clear, bit 7 alone is
cleared, the pair is abandoned; the frame. -/
def Obligations.StatusReadReturnsThenClearsTheFrameFlag : Prop :=
  ∀ s : State, ∃ t, exec .statusRead s = .next t ∧ t.outputs = s.outputs ++ [s.status] ∧
    t.status.getLsbD 7 = false ∧ (∀ k, k ≠ 7 → t.status.getLsbD k = s.status.getLsbD k) ∧ t.pending = false ∧
    t = { s with status := t.status, pending := t.pending, outputs := t.outputs }

/-- After a status read the next control byte is a fresh first byte, whatever was pending, and no command is executed
(30_encoding.md R100, 70_reset_and_hazards.md R254, 95_test_vectors.md S5). -/
def Obligations.StatusReadMakesTheNextControlByteAFirstByte : Prop :=
  ∀ (s : State) (c : Byte), ∃ t, execAll [.statusRead, .ctrlWrite c] s = .next t ∧
    t.pending = true ∧ t.first = c ∧ t.regs = s.regs ∧ t.ptr = s.ptr ∧ t.latch = s.latch ∧ t.vram = s.vram

/-- Three control writes in a row from the idle state execute the command of the first two and leave the third pending
(41_port_state_machine.md R151, corner case b). -/
def Obligations.ThirdControlByteStartsANewPair : Prop :=
  ∀ (s : State) (b₁ b₂ b₃ : Byte), s.pending = false → ∃ t u,
    exec (decodeCmd (b₂ ++ b₁)) { s with first := b₁ } = .next t ∧
    execAll [.ctrlWrite b₁, .ctrlWrite b₂, .ctrlWrite b₃] s = .next u ∧
    u = { t with first := b₃, pending := true }

/-- The pseudo-operations, issued with no byte pending, perform their commands: both forms of the address set-up alike, a
register write, and the acknowledge, which needs no such state (30_encoding.md R102, R103, R104, R107, derived by the spec).
That the two forms of the address set-up are alike is the spec's decision D7 (R97; log entry 16, DESIGN CHOICE). -/
def Obligations.PseudoOperationsPerformTheirCommands : Prop :=
  ∀ s : State,
    (s.pending = false → ∀ a : Addr,
      execAll (pseudoSetAddr a) s = exec (.setAddr a) { s with first := a.extractLsb' 0 8 } ∧
      execAll (pseudoSetAddrW a) s = execAll (pseudoSetAddr a) s) ∧
    (s.pending = false → ∀ r v, execAll (pseudoSetReg r v) s = exec (.regWrite r v) { s with first := v }) ∧
    ∃ t, execAll pseudoAck s = .next t ∧ t.pending = false ∧ t.frameFlag = false

/-- Only `CTRL_WRITE`, `STATUS_READ` and `RESET` touch a pending control pair; the two data stimuli and `RENDER` do not
(10_state.md R35, 41_port_state_machine.md R159, the spec's decision D9; log entry 17, DEDUCED). -/
def Obligations.OnlyControlPortAndResetTouchAPendingPair : Prop :=
  ∀ (i : Instr) (s t : State), exec i s = .next t → (t.pending ≠ s.pending ∨ t.first ≠ s.first) →
    (∃ b, i = .ctrlWrite b) ∨ i = .statusRead ∨ i = .reset

/-! ### The register file's decoders -/

/-- The mode decoder, by register bits, and the mode the renderer dispatches on for either value of `BLANK_HONOURED`
(40_register_file.md R123, R130; the positions and patterns are the spec's decisions D13 and D15, log entry 9). -/
def Obligations.ModeBitsSelectTheMode : Prop :=
  ∀ (p : Params) (s : State),
    s.mode = (if (s.reg 1).getLsbD 3 = true ∨ (s.reg 0).getLsbD 1 = true then .unsupported
      else if (s.reg 1).getLsbD 4 = true then .text else .graphics1) ∧
    ((s.reg 1).getLsbD 6 = false → p.blankHonoured = true → s.effectiveMode p = .blank) ∧
    ((s.reg 1).getLsbD 6 = true ∨ p.blankHonoured = false →
      (s.mode = .graphics1 → s.effectiveMode p = .graphics1) ∧ (s.mode = .text → s.effectiveMode p = .text) ∧
      (s.mode = .unsupported → s.effectiveMode p = .blank))

/-- The table bases of this machine, by register value (40_register_file.md R124 to R126; masks and shifts are the spec's
decision D14, log entry 8). The spec defines each base in its modes only; that they have a value in every state is the model's
choice (log entry 23, DESIGN CHOICE). -/
def Obligations.TableBasesFollowTheirRegisters : Prop :=
  ∀ (s : State) (m : TableMode),
    (s.nameBaseIn params m).toNat = (s.reg 2).toNat % 16 * 0x400 ∧
    (s.patternBaseIn params m).toNat = (s.reg 4).toNat % 8 * 0x800 ∧
    (s.colourBase params).toNat = (s.reg 3).toNat * 0x40

/-- With this machine's masks no table runs past the top of VRAM (20_memory.md R69, R201, derived by the spec from the
default masks, decision D14, log entry 8). That the bases have a value in every state is the model's choice (log entry 23,
DESIGN CHOICE). -/
def Obligations.NoTableRunsPastTheTopOfVram : Prop :=
  ∀ (s : State) (m : TableMode),
    (s.nameBaseIn params m).toNat + 959 < 16384 ∧ (s.patternBaseIn params m).toNat + 2047 < 16384 ∧
    (s.colourBase params).toNat + 31 < 16384

/-- A write of register 3 through the control port moves the colour table at once (40_register_file.md R126, R131;
95_test_vectors.md S6). That register 3 is the colour table's and the shift is 6 is decision D14, log entry 8; that the base
has a value outside Graphics I too is the model's choice (log entry 23, DESIGN CHOICE). -/
def Obligations.RegisterThreeWriteMovesTheColourTable : Prop :=
  ∀ (s : State) (v : Byte), s.pending = false → ∃ t,
    execAll [.ctrlWrite v, .ctrlWrite 0x83#8] s = .next t ∧ t.reg 3 = v ∧
    (t.colourBase params).toNat = v.toNat * 0x40 ∧ t.pending = false

/-! ### The renderer -/

/-- `RENDER` (42_mode_renderer.md R180, R200): every pixel of the frame is the packed code of the effective mode, the frame
has the mode's size, the frame flag is set, and nothing else changes. The sizes and the row-major layout without padding
(R183, R184) are the spec's decisions D17 and D18 (log entry 11, DESIGN CHOICE), that a pending pair is left alone its
decision D9 (log entry 17, DEDUCED). -/
def Obligations.RenderDrawsEveryPixelAndSetsTheFrameFlag : Prop :=
  ∀ s : State, ∃ t f, exec .render s = .next t ∧ t.fb = some f ∧
    f.width = (if s.effectiveMode params = .text then 240 else 256) ∧ f.height = 192 ∧
    f.px.length = f.width * f.height ∧
    (∀ x y, x < f.width → y < f.height → f.px[y * f.width + x]? =
      some (params.palette (s.pixelCode params (s.effectiveMode params) x y))) ∧
    t.status.getLsbD 7 = true ∧ (∀ k, k ≠ 7 → t.status.getLsbD k = s.status.getLsbD k) ∧
    t = { s with fb := t.fb, status := t.status }

/-- The new frame is a function of the control registers and of what VRAM reads alone, and a second `RENDER` changes nothing
(42_mode_renderer.md R181). -/
def Obligations.FrameDependsOnlyOnRegistersAndVram : Prop :=
  (∀ s t : State, s.regs = t.regs → (∀ a, s.vramRead a = t.vramRead a) → ∃ s' t',
    exec .render s = .next s' ∧ exec .render t = .next t' ∧ s'.fb = t'.fb) ∧
  ∀ s s' : State, exec .render s = .next s' → exec .render s' = .next s'

/-- Packing, for every `PIXEL_BITS` and every `PALETTE` (00_scope.md R5, 42_mode_renderer.md R203, the spec's decision D19; log
entry 7): the colour codes of a picture do not depend on them, and each pixel of the frame is its code through the palette.
The size and the layout of the frame are log entry 11. -/
def Obligations.EveryPaletteDrawsTheSameCodes : Prop :=
  ∀ (p : Params) (bits : Nat) (pal : Colour → Pixel bits) (s : State) (x y : Nat),
    (∀ m, s.pixelCode { p with pixelBits := bits, palette := pal } m x y = s.pixelCode p m x y) ∧
    (x < frameWidth (s.effectiveMode p) → y < 192 →
      (s.frame { p with pixelBits := bits, palette := pal }).px[y * frameWidth (s.effectiveMode p) + x]? =
        some (pal (s.pixelCode p (s.effectiveMode p) x y)))

/-- A Graphics I picture, pixel by pixel, with the display enabled (42_mode_renderer.md R185 to R189). The addresses use this
machine's masks (log entry 8), the positions of the bits, lines and nibbles are log entries 9 and 10. -/
def Obligations.Graphics1PixelFollowsNamePatternAndColourTables : Prop :=
  ∀ s : State, (s.reg 0).getLsbD 1 = false → (s.reg 1).getLsbD 3 = false → (s.reg 1).getLsbD 4 = false →
    (s.reg 1).getLsbD 6 = true → ∃ t, exec .render s = .next t ∧ ∀ x y, x < 256 → y < 192 → ∃ name line pair : Byte,
      name = s.vramRead ((s.reg 2).toNat % 16 * 0x400 + y / 8 * 32 + x / 8) ∧
      line = s.vramRead ((s.reg 4).toNat % 8 * 0x800 + name.toNat * 8 + y % 8) ∧
      pair = s.vramRead ((s.reg 3).toNat * 0x40 + name.toNat / 8) ∧
      t.pixel x y = some (Config.palette
        (if line.getLsbD (7 - x % 8) then pair.extractLsb' 4 4 else pair.extractLsb' 0 4))

/-- A Text picture, pixel by pixel, with the display enabled: only the upper six bits of a pattern line are shown
(42_mode_renderer.md R190 to R194). The addresses use this machine's masks (log entry 8), the positions of the bits, lines
and colours are log entries 9 and 10. That the frame is 240 wide, so that column 240 does not exist, is the spec's decision
D18 (R183, R184; log entry 11, DESIGN CHOICE). -/
def Obligations.TextPixelFollowsNameAndPatternTables : Prop :=
  ∀ s : State, (s.reg 0).getLsbD 1 = false → (s.reg 1).getLsbD 3 = false → (s.reg 1).getLsbD 4 = true →
    (s.reg 1).getLsbD 6 = true → ∃ t, exec .render s = .next t ∧ ∀ x y, x < 240 → y < 192 → ∃ name line : Byte,
      name = s.vramRead ((s.reg 2).toNat % 16 * 0x400 + y / 8 * 40 + x / 6) ∧
      line = s.vramRead ((s.reg 4).toNat % 8 * 0x800 + name.toNat * 8 + y % 8) ∧
      t.pixel x y = some (Config.palette
        (if (line >>> 2).getLsbD (5 - x % 6) then (s.reg 7).extractLsb' 4 4 else (s.reg 7).extractLsb' 0 4)) ∧
      t.pixel 240 y = none

/-- In Graphics I the colours of a pixel depend on the group of 8 names its cell's name is in, not on the cell: two pixels
with names of one group and equal pattern bits have one colour (42_mode_renderer.md R188). -/
def Obligations.NamesOfOneGroupShareTheirColours : Prop :=
  ∀ (p : Params) (s : State) (x y x' y' : Nat),
    (s.graphics1Name p x y).toNat / 8 = (s.graphics1Name p x' y').toNat / 8 →
    (s.patternLine p .g1 (s.graphics1Name p x y) y).getLsbD (7 - x % 8) =
      (s.patternLine p .g1 (s.graphics1Name p x' y') y').getLsbD (7 - x' % 8) →
    s.graphics1Code p x y = s.graphics1Code p x' y'

/-- A mode pattern that names no supported mode gives the flat frame of the backdrop colour, not a failure
(42_mode_renderer.md R180, R196; its colour and size are the spec's decision D17, log entry 11). -/
def Obligations.UnsupportedModeRendersAFlatFrame : Prop :=
  ∀ s : State, s.mode = .unsupported → ∃ t, exec .render s = .next t ∧
    t.fb = some ⟨256, 192, List.replicate (256 * 192) (params.palette s.backdrop)⟩

/-- The blanking bit, for either value of `BLANK_HONOURED`: honoured, a disabled display gives the flat frame whatever the
mode bits are; ignored, the frame is the one of the enabled display (40_register_file.md R130, 42_mode_renderer.md R197,
decision D16, log entry 6). That the flat frame is 256 by 192 pixels of the backdrop is the spec's decision D17 (R196; log
entry 11, DESIGN CHOICE), that the bit is bit 6 of `R[1]` its decision D13 (log entry 9, PRESUMED). -/
def Obligations.BlankingFollowsItsParameter : Prop :=
  (∀ (p : Params) (s : State), p.blankHonoured = true → s.displayEnabled = false →
    s.frame p = ⟨256, 192, List.replicate (256 * 192) (p.palette s.backdrop)⟩) ∧
  (∀ (p : Params) (s : State) (v : Byte), p.blankHonoured = false → v = s.reg 1 ||| 0x40#8 →
    s.frame p = (s.writeReg 1 v).frame p) ∧
  ∀ s : State, ∃ t, exec .render s = .next t ∧ t.fb = some (s.frame params)

/-- The first frame after reset has code 0 in every pixel, whether or not the blanking bit is honoured
(70_reset_and_hazards.md R252, derived by the spec). The frame's size is the spec's decisions D17 and D18 (log entry 11,
DESIGN CHOICE), `STATUS` 0x00 at reset its decision D11 (log entry 12, DEDUCED). -/
def Obligations.FirstFrameAfterResetIsAllCodeZero : Prop :=
  ∃ t, exec .render State.reset = .next t ∧
    t.fb = some ⟨256, 192, List.replicate (256 * 192) (params.palette 0#4)⟩ ∧ t.status = 0x80#8

/-! ### Reset, the frame flag and the interrupt output -/

/-- The state after reset and what its registers mean through the decoders (10_state.md R42; the values of `FIRST`, `LATCH`,
`STATUS` and `FB` are the spec's decisions D5, D11 and D22, log entry 12; the empty host channels are the model's, log
entries 1 and 2). The mode being Graphics I there, each base has the value its rule defines. -/
def Obligations.ResetStateHasTheSpecsValues : Prop :=
  (∀ a, State.reset.vramRead a = 0x00#8) ∧ (∀ i, State.reset.reg i = 0x00#8) ∧ State.reset.status = 0x00#8 ∧
  State.reset.ptr = 0x0000#14 ∧ State.reset.pending = false ∧ State.reset.first = 0x00#8 ∧
  State.reset.latch = 0x00#8 ∧ State.reset.latchValid = false ∧ State.reset.fb = none ∧
  State.reset.inputs = [] ∧ State.reset.outputs = [] ∧
  State.reset.mode = .graphics1 ∧ State.reset.displayEnabled = false ∧ State.reset.intEnabled = false ∧
  State.reset.nameBase params = some 0#14 ∧ State.reset.patternBase params = some 0#14 ∧
  State.reset.colourBase params = 0#14 ∧ State.reset.textFg = 0#4 ∧ State.reset.backdrop = 0#4 ∧
  State.reset.intOutput = false

/-- `RESET` gives the reset state whatever the state was, and is idempotent (70_reset_and_hazards.md R250, 20_memory.md R68;
that the host's channels stay is the model's choice, log entry 13). -/
def Obligations.ResetRestoresTheResetStateFromAnyState : Prop :=
  ∀ s : State, ∃ t, exec .reset s = .next t ∧ t = { State.reset with inputs := s.inputs, outputs := s.outputs } ∧
    (∀ a, t.vramRead a = 0x00#8) ∧ (∀ i, t.reg i = 0x00#8) ∧ exec .reset t = .next t

/-- The frame flag becomes 1 at every `RENDER`, 0 at every `STATUS_READ` and at `RESET`, and at nothing else, whatever the
mode and the interrupt enable (60_exceptions.md R221); no other status bit is ever set (10_state.md R32). That `STATUS` is
0x00 after `RESET` is the spec's decisions D11 (log entry 12, DEDUCED) and D23 (log entry 13, DESIGN CHOICE). -/
def Obligations.FrameFlagRisesAtRenderAndFallsAtStatusRead : Prop :=
  ∀ (i : Instr) (s t : State), exec i s = .next t →
    (i = .render → t.frameFlag = true) ∧ (i = .statusRead ∨ i = .reset → t.frameFlag = false) ∧
    (i ≠ .render → i ≠ .statusRead → i ≠ .reset → t.frameFlag = s.frameFlag) ∧
    ∀ k, k < 7 → t.status.getLsbD k = true → s.status.getLsbD k = true

/-- The interrupt output: the frame flag and the enable; it rises at a `RENDER` with the enable set and at a register write
that sets the enable while the flag is 1, and falls at a status read and at reset (60_exceptions.md R222, the spec's decision
D24, log entry 18). -/
def Obligations.InterruptOutputIsFlagAndEnable : Prop :=
  ∀ s : State, s.intOutput = (s.status.getLsbD 7 && (s.reg 1).getLsbD 5) ∧
    (∃ t, exec .render s = .next t ∧ t.intOutput = (s.reg 1).getLsbD 5) ∧
    (∃ t, exec .statusRead s = .next t ∧ t.intOutput = false) ∧
    (∃ t, exec .reset s = .next t ∧ t.intOutput = false) ∧
    ∀ v, ∃ t, exec (.regWrite 1 v) s = .next t ∧ t.intOutput = (s.status.getLsbD 7 && v.getLsbD 5)

/-! ### Promises made of the whole machine -/

/-- Only `DATA_WRITE` and `RESET` change VRAM; the renderer and the control port never do (10_state.md R21, R43). -/
def Obligations.OnlyDataWriteAndResetChangeVram : Prop :=
  ∀ (i : Instr) (s t : State), exec i s = .next t → t.vram ≠ s.vram → (∃ b, i = .dataWrite b) ∨ i = .reset

/-- Only `REG_WRITE`, as such or as the action of the second byte of a pair, and `RESET` change a control register
(10_state.md R22, R43). That bits 6:3 of the second byte play no part in which one is the spec's decision D7 (log entry 16,
DESIGN CHOICE). -/
def Obligations.OnlyRegWriteAndResetChangeControlRegisters : Prop :=
  ∀ (i : Instr) (s t : State) (j : Fin 8), exec i s = .next t → t.reg j ≠ s.reg j →
    (∃ v, i = .regWrite j v) ∨
    (∃ b, i = .ctrlWrite b ∧ s.pending = true ∧ b.getLsbD 7 = true ∧ j.val = b.toNat % 8 ∧ t.reg j = s.first) ∨
    i = .reset

/-- Only `RENDER` and `RESET` change the framebuffer, and only a `SET_ADDR`, as such or as the action of a second byte, a data
access and `RESET` change the pointer, by exactly one in a data access (10_state.md R34, R40, R43). That `SET_ADDR A` leaves
the pointer at `A` and a read moves it by one is the spec's reading of a contradictory source (C1, decision D2; log entry 14,
DEDUCED), that a register write never moves it its decision D8 (log entry 17, DEDUCED). -/
def Obligations.FramebufferAndPointerHaveOnlyTheirWriters : Prop :=
  ∀ (i : Instr) (s t : State), exec i s = .next t →
    (t.fb ≠ s.fb → i = .render ∨ i = .reset) ∧
    (t.ptr ≠ s.ptr → (∃ a, i = .setAddr a ∧ t.ptr = a) ∨
      (∃ b, i = .ctrlWrite b ∧ s.pending = true ∧ b.getLsbD 7 = false) ∨
      (((∃ b, i = .dataWrite b) ∨ i = .dataRead) ∧ t.ptr = s.ptr + 1#14) ∨ i = .reset)

/-- The control registers are write-only: in any sequence of stimuli and commands, the bytes the two reads return and VRAM do
not depend on them (10_state.md R22: "no stimulus returns a control register's value"). The framebuffer and `INT`, which the
host also sees, do depend on them (R40, 60_exceptions.md R222); nothing is said of these here. -/
def Obligations.ReturnedBytesAndVramNeverDependOnControlRegisters : Prop :=
  ∀ (is : List Instr) (s : State) (rs : Vector Byte 8), ∃ t u,
    execAll is s = .next t ∧ execAll is { s with regs := rs } = .next u ∧ u.outputs = t.outputs ∧ u.vram = t.vram

/-- The host is handed one byte by each of the two reads and nothing by anything else (30_encoding.md R91, the response
column; 00_scope.md R10, `return v`). The list of bytes handed over is the model's (log entry 2, DESIGN CHOICE), and so are
that no instruction changes the queue of stimuli still to come (log entry 1, DESIGN CHOICE) and that `RESET` keeps both (log
entry 13, DESIGN CHOICE). -/
def Obligations.OnlyReadsHandTheHostAByte : Prop :=
  ∀ (i : Instr) (s t : State), exec i s = .next t →
    (i = .dataRead ∨ i = .statusRead → ∃ v, t.outputs = s.outputs ++ [v]) ∧
    (i ≠ .dataRead → i ≠ .statusRead → t.outputs = s.outputs) ∧ t.inputs = s.inputs

/-! ### Invariants -/

/-- Every step keeps the invariants of 10_state.md R44 and the canonical form of VRAM, from every state that has them. -/
def Obligations.StepKeepsTheInvariants : Prop :=
  ∀ s t : State, s.Inv → step s = .next t → t.Inv

/-- The invariants hold at reset (10_state.md R42, R44). -/
def Obligations.ResetSatisfiesTheInvariants : Prop :=
  State.reset.Inv

/-- Every state of every run, whatever the host issues and whenever, satisfies the invariants of 10_state.md R44, which the
spec derives from its operation rules. -/
def Obligations.ReachableStatesSatisfyTheInvariants : Prop :=
  ∀ s : State, Reachable s → s.Inv

/-- A step from a state with the invariants is safe whenever the word issued names a stimulus: it neither faults nor is
refused (60_exceptions.md R220, 10_state.md R44). -/
def Obligations.StepIsSafeWhenTheWordNamesAStimulus : Prop :=
  ∀ s : State, s.Inv → (∀ w ws, s.inputs = w :: ws → StimWord.wellFormed w = true) → safeOutcome (step s)
end

