-- ==== Sys2Proof/Laws/State.lean ====
section
/-! SUPPORT. What each update of the state does to each field, one lemma a field; so that no later proof unfolds an
update. Reads of VRAM and of a control register follow, for the updates that leave them alone. -/

namespace Sys2Proof.Machine

variable (s : State)

section
variable (a : Nat) (v : Byte)
@[simp] theorem State.vramWrite_vram : (s.vramWrite a v).vram = Memory.write s.vram (a % 16384) v := rfl
@[simp] theorem State.vramWrite_regs : (s.vramWrite a v).regs = s.regs := rfl
@[simp] theorem State.vramWrite_status : (s.vramWrite a v).status = s.status := rfl
@[simp] theorem State.vramWrite_ptr : (s.vramWrite a v).ptr = s.ptr := rfl
@[simp] theorem State.vramWrite_pending : (s.vramWrite a v).pending = s.pending := rfl
@[simp] theorem State.vramWrite_first : (s.vramWrite a v).first = s.first := rfl
@[simp] theorem State.vramWrite_latch : (s.vramWrite a v).latch = s.latch := rfl
@[simp] theorem State.vramWrite_latchValid : (s.vramWrite a v).latchValid = s.latchValid := rfl
@[simp] theorem State.vramWrite_fb : (s.vramWrite a v).fb = s.fb := rfl
@[simp] theorem State.vramWrite_inputs : (s.vramWrite a v).inputs = s.inputs := rfl
@[simp] theorem State.vramWrite_outputs : (s.vramWrite a v).outputs = s.outputs := rfl
@[simp] theorem State.vramWrite_reg (j : Fin 8) : (s.vramWrite a v).reg j = s.reg j := rfl
end

section
variable (i : Fin 8) (v : Byte)
@[simp] theorem State.writeReg_vram : (s.writeReg i v).vram = s.vram := rfl
@[simp] theorem State.writeReg_regs : (s.writeReg i v).regs = s.regs.set i v := rfl
@[simp] theorem State.writeReg_status : (s.writeReg i v).status = s.status := rfl
@[simp] theorem State.writeReg_ptr : (s.writeReg i v).ptr = s.ptr := rfl
@[simp] theorem State.writeReg_pending : (s.writeReg i v).pending = s.pending := rfl
@[simp] theorem State.writeReg_first : (s.writeReg i v).first = s.first := rfl
@[simp] theorem State.writeReg_latch : (s.writeReg i v).latch = s.latch := rfl
@[simp] theorem State.writeReg_latchValid : (s.writeReg i v).latchValid = s.latchValid := rfl
@[simp] theorem State.writeReg_fb : (s.writeReg i v).fb = s.fb := rfl
@[simp] theorem State.writeReg_inputs : (s.writeReg i v).inputs = s.inputs := rfl
@[simp] theorem State.writeReg_outputs : (s.writeReg i v).outputs = s.outputs := rfl
@[simp] theorem State.writeReg_vramRead (x : Nat) : (s.writeReg i v).vramRead x = s.vramRead x := rfl
end

section
variable (a : Addr)
@[simp] theorem State.setPtr_vram : (s.setPtr a).vram = s.vram := rfl
@[simp] theorem State.setPtr_regs : (s.setPtr a).regs = s.regs := rfl
@[simp] theorem State.setPtr_status : (s.setPtr a).status = s.status := rfl
@[simp] theorem State.setPtr_ptr : (s.setPtr a).ptr = a := rfl
@[simp] theorem State.setPtr_pending : (s.setPtr a).pending = s.pending := rfl
@[simp] theorem State.setPtr_first : (s.setPtr a).first = s.first := rfl
@[simp] theorem State.setPtr_latch : (s.setPtr a).latch = s.latch := rfl
@[simp] theorem State.setPtr_latchValid : (s.setPtr a).latchValid = s.latchValid := rfl
@[simp] theorem State.setPtr_fb : (s.setPtr a).fb = s.fb := rfl
@[simp] theorem State.setPtr_inputs : (s.setPtr a).inputs = s.inputs := rfl
@[simp] theorem State.setPtr_outputs : (s.setPtr a).outputs = s.outputs := rfl
@[simp] theorem State.setPtr_vramRead (x : Nat) : (s.setPtr a).vramRead x = s.vramRead x := rfl
@[simp] theorem State.setPtr_reg (j : Fin 8) : (s.setPtr a).reg j = s.reg j := rfl
end

section
@[simp] theorem State.advancePtr_vram : s.advancePtr.vram = s.vram := rfl
@[simp] theorem State.advancePtr_regs : s.advancePtr.regs = s.regs := rfl
@[simp] theorem State.advancePtr_status : s.advancePtr.status = s.status := rfl
@[simp] theorem State.advancePtr_ptr : s.advancePtr.ptr = s.ptr + 1#14 := rfl
@[simp] theorem State.advancePtr_pending : s.advancePtr.pending = s.pending := rfl
@[simp] theorem State.advancePtr_first : s.advancePtr.first = s.first := rfl
@[simp] theorem State.advancePtr_latch : s.advancePtr.latch = s.latch := rfl
@[simp] theorem State.advancePtr_latchValid : s.advancePtr.latchValid = s.latchValid := rfl
@[simp] theorem State.advancePtr_fb : s.advancePtr.fb = s.fb := rfl
@[simp] theorem State.advancePtr_inputs : s.advancePtr.inputs = s.inputs := rfl
@[simp] theorem State.advancePtr_outputs : s.advancePtr.outputs = s.outputs := rfl
@[simp] theorem State.advancePtr_vramRead (x : Nat) : s.advancePtr.vramRead x = s.vramRead x := rfl
@[simp] theorem State.advancePtr_reg (j : Fin 8) : s.advancePtr.reg j = s.reg j := rfl
end

section
@[simp] theorem State.fetchLatch_vram : s.fetchLatch.vram = s.vram := rfl
@[simp] theorem State.fetchLatch_regs : s.fetchLatch.regs = s.regs := rfl
@[simp] theorem State.fetchLatch_status : s.fetchLatch.status = s.status := rfl
@[simp] theorem State.fetchLatch_ptr : s.fetchLatch.ptr = s.ptr := rfl
@[simp] theorem State.fetchLatch_pending : s.fetchLatch.pending = s.pending := rfl
@[simp] theorem State.fetchLatch_first : s.fetchLatch.first = s.first := rfl
@[simp] theorem State.fetchLatch_latch : s.fetchLatch.latch = s.vramRead s.ptr.toNat := rfl
@[simp] theorem State.fetchLatch_latchValid : s.fetchLatch.latchValid = true := rfl
@[simp] theorem State.fetchLatch_fb : s.fetchLatch.fb = s.fb := rfl
@[simp] theorem State.fetchLatch_inputs : s.fetchLatch.inputs = s.inputs := rfl
@[simp] theorem State.fetchLatch_outputs : s.fetchLatch.outputs = s.outputs := rfl
@[simp] theorem State.fetchLatch_vramRead (x : Nat) : s.fetchLatch.vramRead x = s.vramRead x := rfl
@[simp] theorem State.fetchLatch_reg (j : Fin 8) : s.fetchLatch.reg j = s.reg j := rfl
end

section
@[simp] theorem State.invalidateLatch_vram : s.invalidateLatch.vram = s.vram := rfl
@[simp] theorem State.invalidateLatch_regs : s.invalidateLatch.regs = s.regs := rfl
@[simp] theorem State.invalidateLatch_status : s.invalidateLatch.status = s.status := rfl
@[simp] theorem State.invalidateLatch_ptr : s.invalidateLatch.ptr = s.ptr := rfl
@[simp] theorem State.invalidateLatch_pending : s.invalidateLatch.pending = s.pending := rfl
@[simp] theorem State.invalidateLatch_first : s.invalidateLatch.first = s.first := rfl
@[simp] theorem State.invalidateLatch_latch : s.invalidateLatch.latch = s.latch := rfl
@[simp] theorem State.invalidateLatch_latchValid : s.invalidateLatch.latchValid = false := rfl
@[simp] theorem State.invalidateLatch_fb : s.invalidateLatch.fb = s.fb := rfl
@[simp] theorem State.invalidateLatch_inputs : s.invalidateLatch.inputs = s.inputs := rfl
@[simp] theorem State.invalidateLatch_outputs : s.invalidateLatch.outputs = s.outputs := rfl
@[simp] theorem State.invalidateLatch_vramRead (x : Nat) : s.invalidateLatch.vramRead x = s.vramRead x := rfl
@[simp] theorem State.invalidateLatch_reg (j : Fin 8) : s.invalidateLatch.reg j = s.reg j := rfl
end

section
variable (b : Byte)
@[simp] theorem State.holdFirst_vram : (s.holdFirst b).vram = s.vram := rfl
@[simp] theorem State.holdFirst_regs : (s.holdFirst b).regs = s.regs := rfl
@[simp] theorem State.holdFirst_status : (s.holdFirst b).status = s.status := rfl
@[simp] theorem State.holdFirst_ptr : (s.holdFirst b).ptr = s.ptr := rfl
@[simp] theorem State.holdFirst_pending : (s.holdFirst b).pending = true := rfl
@[simp] theorem State.holdFirst_first : (s.holdFirst b).first = b := rfl
@[simp] theorem State.holdFirst_latch : (s.holdFirst b).latch = s.latch := rfl
@[simp] theorem State.holdFirst_latchValid : (s.holdFirst b).latchValid = s.latchValid := rfl
@[simp] theorem State.holdFirst_fb : (s.holdFirst b).fb = s.fb := rfl
@[simp] theorem State.holdFirst_inputs : (s.holdFirst b).inputs = s.inputs := rfl
@[simp] theorem State.holdFirst_outputs : (s.holdFirst b).outputs = s.outputs := rfl
@[simp] theorem State.holdFirst_vramRead (x : Nat) : (s.holdFirst b).vramRead x = s.vramRead x := rfl
@[simp] theorem State.holdFirst_reg (j : Fin 8) : (s.holdFirst b).reg j = s.reg j := rfl
end

section
@[simp] theorem State.clearPending_vram : s.clearPending.vram = s.vram := rfl
@[simp] theorem State.clearPending_regs : s.clearPending.regs = s.regs := rfl
@[simp] theorem State.clearPending_status : s.clearPending.status = s.status := rfl
@[simp] theorem State.clearPending_ptr : s.clearPending.ptr = s.ptr := rfl
@[simp] theorem State.clearPending_pending : s.clearPending.pending = false := rfl
@[simp] theorem State.clearPending_first : s.clearPending.first = s.first := rfl
@[simp] theorem State.clearPending_latch : s.clearPending.latch = s.latch := rfl
@[simp] theorem State.clearPending_latchValid : s.clearPending.latchValid = s.latchValid := rfl
@[simp] theorem State.clearPending_fb : s.clearPending.fb = s.fb := rfl
@[simp] theorem State.clearPending_inputs : s.clearPending.inputs = s.inputs := rfl
@[simp] theorem State.clearPending_outputs : s.clearPending.outputs = s.outputs := rfl
@[simp] theorem State.clearPending_vramRead (x : Nat) : s.clearPending.vramRead x = s.vramRead x := rfl
@[simp] theorem State.clearPending_reg (j : Fin 8) : s.clearPending.reg j = s.reg j := rfl
end

section
variable (v : Byte)
@[simp] theorem State.reply_vram : (s.reply v).vram = s.vram := rfl
@[simp] theorem State.reply_regs : (s.reply v).regs = s.regs := rfl
@[simp] theorem State.reply_status : (s.reply v).status = s.status := rfl
@[simp] theorem State.reply_ptr : (s.reply v).ptr = s.ptr := rfl
@[simp] theorem State.reply_pending : (s.reply v).pending = s.pending := rfl
@[simp] theorem State.reply_first : (s.reply v).first = s.first := rfl
@[simp] theorem State.reply_latch : (s.reply v).latch = s.latch := rfl
@[simp] theorem State.reply_latchValid : (s.reply v).latchValid = s.latchValid := rfl
@[simp] theorem State.reply_fb : (s.reply v).fb = s.fb := rfl
@[simp] theorem State.reply_inputs : (s.reply v).inputs = s.inputs := rfl
@[simp] theorem State.reply_outputs : (s.reply v).outputs = s.outputs ++ [v] := rfl
@[simp] theorem State.reply_vramRead (x : Nat) : (s.reply v).vramRead x = s.vramRead x := rfl
@[simp] theorem State.reply_reg (j : Fin 8) : (s.reply v).reg j = s.reg j := rfl
end

section
variable (f : Frame Config.pixelBits)
@[simp] theorem State.showFrame_vram : (s.showFrame f).vram = s.vram := rfl
@[simp] theorem State.showFrame_regs : (s.showFrame f).regs = s.regs := rfl
@[simp] theorem State.showFrame_status : (s.showFrame f).status = s.status := rfl
@[simp] theorem State.showFrame_ptr : (s.showFrame f).ptr = s.ptr := rfl
@[simp] theorem State.showFrame_pending : (s.showFrame f).pending = s.pending := rfl
@[simp] theorem State.showFrame_first : (s.showFrame f).first = s.first := rfl
@[simp] theorem State.showFrame_latch : (s.showFrame f).latch = s.latch := rfl
@[simp] theorem State.showFrame_latchValid : (s.showFrame f).latchValid = s.latchValid := rfl
@[simp] theorem State.showFrame_fb : (s.showFrame f).fb = some f := rfl
@[simp] theorem State.showFrame_inputs : (s.showFrame f).inputs = s.inputs := rfl
@[simp] theorem State.showFrame_outputs : (s.showFrame f).outputs = s.outputs := rfl
@[simp] theorem State.showFrame_vramRead (x : Nat) : (s.showFrame f).vramRead x = s.vramRead x := rfl
@[simp] theorem State.showFrame_reg (j : Fin 8) : (s.showFrame f).reg j = s.reg j := rfl
end

section
variable (ws : List StimWord)
@[simp] theorem State.setInputs_vram : (s.setInputs ws).vram = s.vram := rfl
@[simp] theorem State.setInputs_regs : (s.setInputs ws).regs = s.regs := rfl
@[simp] theorem State.setInputs_status : (s.setInputs ws).status = s.status := rfl
@[simp] theorem State.setInputs_ptr : (s.setInputs ws).ptr = s.ptr := rfl
@[simp] theorem State.setInputs_pending : (s.setInputs ws).pending = s.pending := rfl
@[simp] theorem State.setInputs_first : (s.setInputs ws).first = s.first := rfl
@[simp] theorem State.setInputs_latch : (s.setInputs ws).latch = s.latch := rfl
@[simp] theorem State.setInputs_latchValid : (s.setInputs ws).latchValid = s.latchValid := rfl
@[simp] theorem State.setInputs_fb : (s.setInputs ws).fb = s.fb := rfl
@[simp] theorem State.setInputs_inputs : (s.setInputs ws).inputs = ws := rfl
@[simp] theorem State.setInputs_outputs : (s.setInputs ws).outputs = s.outputs := rfl
@[simp] theorem State.setInputs_vramRead (x : Nat) : (s.setInputs ws).vramRead x = s.vramRead x := rfl
@[simp] theorem State.setInputs_reg (j : Fin 8) : (s.setInputs ws).reg j = s.reg j := rfl
end

section
@[simp] theorem State.setFrameFlag_vram : s.setFrameFlag.vram = s.vram := rfl
@[simp] theorem State.setFrameFlag_regs : s.setFrameFlag.regs = s.regs := rfl
@[simp] theorem State.setFrameFlag_status : s.setFrameFlag.status = s.status ||| 0x80#8 := rfl
@[simp] theorem State.setFrameFlag_ptr : s.setFrameFlag.ptr = s.ptr := rfl
@[simp] theorem State.setFrameFlag_pending : s.setFrameFlag.pending = s.pending := rfl
@[simp] theorem State.setFrameFlag_first : s.setFrameFlag.first = s.first := rfl
@[simp] theorem State.setFrameFlag_latch : s.setFrameFlag.latch = s.latch := rfl
@[simp] theorem State.setFrameFlag_latchValid : s.setFrameFlag.latchValid = s.latchValid := rfl
@[simp] theorem State.setFrameFlag_fb : s.setFrameFlag.fb = s.fb := rfl
@[simp] theorem State.setFrameFlag_inputs : s.setFrameFlag.inputs = s.inputs := rfl
@[simp] theorem State.setFrameFlag_outputs : s.setFrameFlag.outputs = s.outputs := rfl
@[simp] theorem State.setFrameFlag_vramRead (x : Nat) : s.setFrameFlag.vramRead x = s.vramRead x := rfl
@[simp] theorem State.setFrameFlag_reg (j : Fin 8) : s.setFrameFlag.reg j = s.reg j := rfl
end

section
@[simp] theorem State.clearFrameFlag_vram : s.clearFrameFlag.vram = s.vram := rfl
@[simp] theorem State.clearFrameFlag_regs : s.clearFrameFlag.regs = s.regs := rfl
@[simp] theorem State.clearFrameFlag_status : s.clearFrameFlag.status = s.status &&& 0x7F#8 := rfl
@[simp] theorem State.clearFrameFlag_ptr : s.clearFrameFlag.ptr = s.ptr := rfl
@[simp] theorem State.clearFrameFlag_pending : s.clearFrameFlag.pending = s.pending := rfl
@[simp] theorem State.clearFrameFlag_first : s.clearFrameFlag.first = s.first := rfl
@[simp] theorem State.clearFrameFlag_latch : s.clearFrameFlag.latch = s.latch := rfl
@[simp] theorem State.clearFrameFlag_latchValid : s.clearFrameFlag.latchValid = s.latchValid := rfl
@[simp] theorem State.clearFrameFlag_fb : s.clearFrameFlag.fb = s.fb := rfl
@[simp] theorem State.clearFrameFlag_inputs : s.clearFrameFlag.inputs = s.inputs := rfl
@[simp] theorem State.clearFrameFlag_outputs : s.clearFrameFlag.outputs = s.outputs := rfl
@[simp] theorem State.clearFrameFlag_vramRead (x : Nat) : s.clearFrameFlag.vramRead x = s.vramRead x := rfl
@[simp] theorem State.clearFrameFlag_reg (j : Fin 8) : s.clearFrameFlag.reg j = s.reg j := rfl
end

end Sys2Proof.Machine
end

