-- ==== Sys2Proof/Laws/Frame.lean ====
section
/-! SUPPORT. The laws of a frame's pixel list and of the frame drawn (42_mode_renderer.md R184, R196, R203). -/

namespace Sys2Proof.Machine

variable {bits : Nat}

@[simp] theorem framePixels_zero (w : Nat) (f : Nat → Nat → Pixel bits) : framePixels w 0 f = [] := rfl

/-- A frame of one more row is the old one followed by the new row. -/
theorem framePixels_succ (w h : Nat) (f : Nat → Nat → Pixel bits) :
    framePixels w (h + 1) f = framePixels w h f ++ (List.range w).map fun x => f x h := by
  simp [framePixels, List.range_succ]

@[simp] theorem framePixels_length (w h : Nat) (f : Nat → Nat → Pixel bits) : (framePixels w h f).length = w * h := by
  induction h with
  | zero => simp
  | succ h ih => simp [framePixels_succ, ih, Nat.mul_succ]

/-- Row-major order: the pixel of column `x` and row `y` stands at `y * w + x`. -/
theorem framePixels_get (w h : Nat) (f : Nat → Nat → Pixel bits) (x y : Nat) (hx : x < w) (hy : y < h) :
    (framePixels w h f)[y * w + x]? = some (f x y) := by
  induction h with
  | zero => omega
  | succ h ih =>
    rw [framePixels_succ]
    by_cases hyh : y < h
    · have hlt : y * w + x < w * h := by
        have : (y + 1) * w ≤ h * w := Nat.mul_le_mul_right w hyh
        rw [Nat.mul_comm w h]; rw [Nat.add_mul] at this; omega
      rw [List.getElem?_append_left (by simpa using hlt), ih hyh]
    · have : y = h := by omega
      subst this
      rw [List.getElem?_append_right (by simp [Nat.mul_comm])]
      simp [Nat.mul_comm, hx]

/-- Two pixel functions that agree inside the frame draw the same frame. -/
theorem framePixels_congr (w h : Nat) (f g : Nat → Nat → Pixel bits) (hfg : ∀ x y, x < w → y < h → f x y = g x y) :
    framePixels w h f = framePixels w h g := by
  induction h with
  | zero => rfl
  | succ h ih =>
    rw [framePixels_succ, framePixels_succ, ih fun x y hx hy => hfg x y hx (by omega)]
    congr 1
    exact List.map_congr_left fun x hx => hfg x h (List.mem_range.1 hx) (by omega)

/-- A frame of one colour. -/
theorem framePixels_const (w h : Nat) (v : Pixel bits) : (framePixels w h fun _ _ => v) = List.replicate (w * h) v := by
  induction h with
  | zero => rfl
  | succ h ih =>
    rw [framePixels_succ, ih, Nat.mul_succ, ← List.replicate_append_replicate]
    congr 1
    simp [List.map_const']

variable (p : Params) (s : State)

theorem State.frame_width : (s.frame p).width = frameWidth (s.effectiveMode p) := rfl

theorem State.frame_height : (s.frame p).height = 192 := rfl

theorem State.frame_length : (s.frame p).px.length = (s.frame p).width * (s.frame p).height :=
  framePixels_length _ _ _

/-- Each pixel of a frame is its code through the palette (42_mode_renderer.md R184, R203). -/
theorem State.frame_get (x y : Nat) (hx : x < frameWidth (s.effectiveMode p)) (hy : y < 192) :
    (s.frame p).px[y * frameWidth (s.effectiveMode p) + x]? = some (p.palette (s.pixelCode p (s.effectiveMode p) x y)) :=
  framePixels_get _ _ _ x y hx hy

/-- The flat frame (42_mode_renderer.md R196). -/
theorem State.frame_blank (h : s.effectiveMode p = .blank) :
    s.frame p = ⟨256, 192, List.replicate (256 * 192) (p.palette s.backdrop)⟩ := by
  simp only [State.frame, h, State.pixelCode, framePixels_const]
  rfl

end Sys2Proof.Machine
end

