-- ==== Sys2Proof/Laws/Memory.lean ====
section
/-! SUPPORT. The laws of the VRAM list (20_memory.md R61 to R63): what is read after a write, and that a write keeps the
canonical form. They hold of every list; only the canonical form itself needs a canonical list. -/

namespace Sys2Proof.Machine

theorem Memory.read_of_not_listed (m : Memory) (a : Nat) (h : ∀ c ∈ m, c.1 ≠ a) : Memory.read m a = unwrittenByte := by
  induction m with
  | nil => rfl
  | cons c m ih =>
    simp only [List.mem_cons, forall_eq_or_imp] at h
    simp [Memory.read, h.1, ih h.2]

theorem Memory.read_filter_of_ne (m : Memory) (a b : Nat) (h : b ≠ a) :
    Memory.read (m.filter (fun c => c.1 != a)) b = Memory.read m b := by
  induction m with
  | nil => rfl
  | cons c m ih =>
    by_cases hc : c.1 = a
    · have hb : c.1 ≠ b := fun e => h (e ▸ hc)
      simpa [Memory.read, hc, hb, Ne.symm h] using ih
    · simp [Memory.read, hc, ih]

theorem Memory.read_insert_self (m : Memory) (a : Nat) (v : Byte) (h : ∀ c ∈ m, c.1 ≠ a) :
    Memory.read (Memory.insert m a v) a = v := by
  induction m with
  | nil => simp [Memory.insert, Memory.read]
  | cons c m ih =>
    simp only [List.mem_cons, forall_eq_or_imp] at h
    by_cases hc : a < c.1
    · simp [Memory.insert, Memory.read, hc]
    · simp [Memory.insert, Memory.read, hc, h.1, ih h.2]

theorem Memory.read_insert_of_ne (m : Memory) (a b : Nat) (v : Byte) (h : b ≠ a) :
    Memory.read (Memory.insert m a v) b = Memory.read m b := by
  induction m with
  | nil => simp [Memory.insert, Memory.read, Ne.symm h]
  | cons c m ih =>
    by_cases hc : a < c.1
    · simp [Memory.insert, Memory.read, hc, Ne.symm h]
    · simp [Memory.insert, Memory.read, hc, ih]

/-- Everything a read can see of a write. -/
theorem Memory.read_write (m : Memory) (a b : Nat) (v : Byte) :
    Memory.read (Memory.write m a v) b = if b = a then v else Memory.read m b := by
  have hfree : ∀ c ∈ m.filter (fun c => c.1 != a), c.1 ≠ a := by simp
  by_cases hv : v = unwrittenByte <;> by_cases hb : b = a
  · subst hb; simp [Memory.write, hv, Memory.read_of_not_listed _ _ hfree]
  · simp [Memory.write, hv, hb, Memory.read_filter_of_ne]
  · subst hb; simp [Memory.write, hv, Memory.read_insert_self _ _ _ hfree]
  · simp [Memory.write, hv, hb, Memory.read_insert_of_ne, Memory.read_filter_of_ne]

theorem Memory.mem_insert (m : Memory) (a : Nat) (v : Byte) (c : Host.Cell) :
    c ∈ Memory.insert m a v ↔ c = (a, v) ∨ c ∈ m := by
  induction m with
  | nil => simp [Memory.insert]
  | cons d m ih =>
    by_cases hd : a < d.1
    · simp [Memory.insert, hd]
    · simp [Memory.insert, hd, ih]; tauto

theorem Memory.wf_filter (m : Memory) (f : Host.Cell → Bool) (h : Memory.wf m) : Memory.wf (m.filter f) :=
  ⟨h.1.filter f, fun c hc => h.2 c (List.mem_filter.1 hc).1⟩

theorem Memory.wf_insert (m : Memory) (a : Nat) (v : Byte) (h : Memory.wf m) (ha : a < 16384) (hv : v ≠ unwrittenByte)
    (hfree : ∀ c ∈ m, c.1 ≠ a) : Memory.wf (Memory.insert m a v) := by
  refine ⟨?_, ?_⟩
  · have hp := h.1
    clear h
    induction m with
    | nil => simp [Memory.insert]
    | cons c m ih =>
      simp only [List.mem_cons, forall_eq_or_imp] at hfree
      rw [List.pairwise_cons] at hp
      by_cases hc : a < c.1
      · simp only [Memory.insert, hc, if_true, List.pairwise_cons, List.mem_cons, forall_eq_or_imp]
        exact ⟨⟨trivial, fun d hd => hc.trans (hp.1 d hd)⟩, hp⟩
      · simp only [Memory.insert, hc, if_false, List.pairwise_cons, Memory.mem_insert, forall_eq_or_imp]
        exact ⟨⟨by have := hfree.1; omega, hp.1⟩, ih hfree.2 hp.2⟩
  · intro c hc
    rcases (Memory.mem_insert m a v c).1 hc with rfl | hc
    · exact ⟨ha, hv⟩
    · exact h.2 c hc

/-- A write keeps the canonical form. -/
theorem Memory.wf_write (m : Memory) (a : Nat) (v : Byte) (h : Memory.wf m) (ha : a < 16384) :
    Memory.wf (Memory.write m a v) := by
  have hf := Memory.wf_filter m (fun c => c.1 != a) h
  by_cases hv : v = unwrittenByte
  · simpa [Memory.write, hv] using hf
  · simpa only [Memory.write, hv, if_false] using Memory.wf_insert _ a v hf ha hv (by simp)

/-- Reset memory is in the canonical form. -/
theorem Memory.wf_reset : Memory.wf State.reset.vram := by decide

/-- The one operation of the state that writes VRAM keeps its canonical form. -/
theorem State.vramWrite_wf (s : State) (a : Nat) (v : Byte) (h : Memory.wf s.vram) :
    Memory.wf (s.vramWrite a v).vram :=
  Memory.wf_write _ _ _ h (Nat.mod_lt _ (by omega))

/-- Everything a VRAM read can see of a VRAM write (20_memory.md R61 to R63). -/
theorem State.vramRead_vramWrite (s : State) (a b : Nat) (v : Byte) :
    (s.vramWrite a v).vramRead b = if b % 16384 = a % 16384 then v else s.vramRead b := by
  simp [State.vramRead, Memory.read_write]

/-- A VRAM address counts modulo 16384 (20_memory.md R61). -/
theorem State.vramRead_mod (s : State) (a : Nat) : s.vramRead (a % 16384) = s.vramRead a := by
  simp [State.vramRead]

end Sys2Proof.Machine
end

