-- ==== Sys2Proof/Laws/Registers.lean ====
section
/-! SUPPORT. The laws of the control registers and of the status register (40_register_file.md R120 to R122). -/

namespace Sys2Proof.Machine

/-- Everything a register read can see of a register write (40_register_file.md R120). -/
theorem State.reg_writeReg (s : State) (i j : Fin 8) (v : Byte) :
    (s.writeReg i v).reg j = if j = i then v else s.reg j := by
  by_cases h : j = i
  · subst h; simp [State.reg, State.writeReg]
  · have hne : (i : Nat) ≠ (j : Nat) := fun e => h (Fin.ext e.symm)
    simp [State.reg, State.writeReg, h, hne]

/-- Every control register holds 0x00 at reset (10_state.md R42). -/
theorem State.reset_reg (i : Fin 8) : State.reset.reg i = 0x00#8 := by
  revert i; decide

/-- Setting the frame flag sets bit 7 and no other (40_register_file.md R122). -/
theorem State.setFrameFlag_getLsbD (s : State) (k : Nat) :
    s.setFrameFlag.status.getLsbD k = (s.status.getLsbD k || k == 7) := by
  by_cases h : k < 8
  · have : k = 0 ∨ k = 1 ∨ k = 2 ∨ k = 3 ∨ k = 4 ∨ k = 5 ∨ k = 6 ∨ k = 7 := by omega
    rcases this with rfl | rfl | rfl | rfl | rfl | rfl | rfl | rfl <;> simp
  · have h7 : k ≠ 7 := by omega
    simp [BitVec.getLsbD_of_ge _ k (by omega : 8 ≤ k), h7]

/-- Clearing the frame flag clears bit 7 and no other (40_register_file.md R121). -/
theorem State.clearFrameFlag_getLsbD (s : State) (k : Nat) :
    s.clearFrameFlag.status.getLsbD k = (s.status.getLsbD k && k != 7) := by
  by_cases h : k < 8
  · have : k = 0 ∨ k = 1 ∨ k = 2 ∨ k = 3 ∨ k = 4 ∨ k = 5 ∨ k = 6 ∨ k = 7 := by omega
    rcases this with rfl | rfl | rfl | rfl | rfl | rfl | rfl | rfl <;> simp
  · simp [BitVec.getLsbD_of_ge _ k (by omega : 8 ≤ k)]

@[simp] theorem State.setFrameFlag_frameFlag (s : State) : s.setFrameFlag.frameFlag = true := by
  simp [State.frameFlag]

@[simp] theorem State.clearFrameFlag_frameFlag (s : State) : s.clearFrameFlag.frameFlag = false := by
  simp [State.frameFlag]

end Sys2Proof.Machine
end

