-- ==== Sys2Proof/Laws/Exec.lean ====
section
/-! SUPPORT. What each instruction and the step answer, said once, so that later proofs cite an equation instead of
unfolding a meaning. -/

namespace Sys2Proof.Machine

variable (s : State)

theorem exec_dataWrite (b : Byte) :
    exec (.dataWrite b) s = .next ((s.vramWrite s.ptr.toNat b).advancePtr.invalidateLatch) := rfl

theorem exec_dataRead : exec .dataRead s = .next ((s.reply (s.latchByte params)).advancePtr.fetchLatch) := rfl

theorem exec_statusRead : exec .statusRead s = .next (s.reply s.status).clearFrameFlag.clearPending := rfl

theorem exec_render : exec .render s = .next (s.showFrame (s.frame params)).setFrameFlag := rfl

theorem exec_reset : exec .reset s = .next { State.reset with inputs := s.inputs, outputs := s.outputs } := rfl

theorem exec_setAddr (a : Addr) : exec (.setAddr a) s = .next (s.setPtr a).fetchLatch := rfl

theorem exec_regWrite (r : Fin 8) (v : Byte) : exec (.regWrite r v) s = .next (s.writeReg r v) := rfl

/-- A completed pair does what its decoded command does (30_encoding.md R109, second level). -/
theorem runCommand_eq_exec (w : CmdWord) : runCommand w s = exec (decodeCmd w) s := by
  unfold runCommand decodeCmd
  split <;> rfl

theorem exec_ctrlWrite_first (b : Byte) (h : s.pending = false) : exec (.ctrlWrite b) s = .next (s.holdFirst b) := by
  simp [exec, execCtrlWrite, h]

theorem exec_ctrlWrite_second (b : Byte) (h : s.pending = true) :
    exec (.ctrlWrite b) s = exec (decodeCmd (cmdWord s.first b)) s.clearPending := by
  simp [exec, execCtrlWrite, h, runCommand_eq_exec]

/-- The latch is what `DATA_READ` returns, whenever the spec says so whatever the parameter is (41_port_state_machine.md
R156). -/
theorem State.latchByte_of_valid (p : Params) (h : s.latchValid = true) : s.latchByte p = s.latch := by
  simp [State.latchByte, h]

theorem State.latchByte_of_stale (p : Params) (h : p.invalidLatchRead = .stale) : s.latchByte p = s.latch := by
  simp [State.latchByte, h]

/-- The machine takes the decided value of the parameter (log entry 5). -/
theorem params_invalidLatchRead : params.invalidLatchRead = .stale := rfl

theorem step_idle (h : s.inputs = []) : step s = .next s := by
  simp [step, fetch, h]

theorem step_stimulus (w : StimWord) (ws : List StimWord) (i : Instr) (h : s.inputs = w :: ws) (hi : decodeStim w = .ok i) :
    step s = exec i (s.setInputs ws) := by
  simp [step, fetch, h, hi]

theorem step_invalid (w : StimWord) (ws : List StimWord) (sel : BitVec 3) (h : s.inputs = w :: ws)
    (hi : decodeStim w = .error (.namesNoStimulus sel)) : step s = .refused (.namesNoStimulus sel) := by
  simp [step, fetch, h, hi]

/-- Everything a step that answers a next state can have done: it found nothing issued, or it performed the oldest
stimulus. -/
theorem step_next_cases (t : State) (h : step s = .next t) :
    (s.inputs = [] ∧ t = s) ∨
      ∃ w ws i, s.inputs = w :: ws ∧ decodeStim w = .ok i ∧ exec i (s.setInputs ws) = .next t := by
  match hin : s.inputs with
  | [] => rw [step_idle s hin] at h; exact .inl ⟨rfl, by simpa using h.symm⟩
  | w :: ws =>
    match hd : decodeStim w with
    | .ok i => rw [step_stimulus s w ws i hin hd] at h; exact .inr ⟨w, ws, i, rfl, hd, h⟩
    | .error (.namesNoStimulus sel) => rw [step_invalid s w ws sel hin hd] at h; cases h

/-- Everything a `CTRL_WRITE` can have done (41_port_state_machine.md R150, R151). -/
theorem exec_ctrlWrite_cases (b : Byte) :
    (s.pending = false ∧ exec (.ctrlWrite b) s = .next (s.holdFirst b)) ∨
    (s.pending = true ∧ cmdIsRegWrite (cmdWord s.first b) = false ∧
      exec (.ctrlWrite b) s = .next (s.clearPending.setPtr (cmdAddr (cmdWord s.first b))).fetchLatch) ∨
    (s.pending = true ∧ cmdIsRegWrite (cmdWord s.first b) = true ∧
      exec (.ctrlWrite b) s =
        .next (s.clearPending.writeReg (cmdReg (cmdWord s.first b)) (cmdValue (cmdWord s.first b)))) := by
  match hp : s.pending with
  | false => exact .inl ⟨rfl, exec_ctrlWrite_first s b hp⟩
  | true =>
    match hc : cmdIsRegWrite (cmdWord s.first b) with
    | false => exact .inr (.inl ⟨rfl, rfl, by rw [exec_ctrlWrite_second s b hp]; simp [decodeCmd, hc, exec_setAddr]⟩)
    | true => exact .inr (.inr ⟨rfl, rfl, by rw [exec_ctrlWrite_second s b hp]; simp [decodeCmd, hc, exec_regWrite]⟩)

end Sys2Proof.Machine
end

