-- ==== Sys2Proof/Laws/PerInstr.lean ====
section
/-! SUPPORT. Statements made of each instruction as syntax, one lemma for each constructor. -/

/-- A 16-bit word belongs to the `CMD` row its bit 15 selects (30_encoding.md R94). -/
theorem Sys2Proof.Laws.and_bit15 (w : Sys2Proof.CmdWord) : w &&& 0x8000#16 = if w.getLsbD 15 then 0x8000#16 else 0x0000#16 := by
  apply BitVec.eq_of_getLsbD_eq
  intro k hk
  have hm : (0x8000#16).getLsbD k = decide (k = 15) := by
    interval_cases k <;> rfl
  by_cases h : k = 15 <;> cases hw : w.getLsbD 15 <;> simp_all

/-- The encoding of an instruction lies in the instruction's row of the opcode table (30_encoding.md R109). -/
def Sys2Proof.Laws.EncodesIntoItsRow.Statement (i : Sys2Proof.Instr) : Prop :=
  Sys2Proof.inRow (Sys2Proof.encode i) (Sys2Proof.opcodeRow i) = true

namespace Sys2Proof.Laws.EncodesIntoItsRow

theorem dataWrite (b : Byte) : Statement (.dataWrite b) := by
  revert b; unfold Statement; decide

theorem dataRead : Statement .dataRead := by
  unfold Statement; decide

theorem ctrlWrite (b : Byte) : Statement (.ctrlWrite b) := by
  revert b; unfold Statement; decide

theorem statusRead : Statement .statusRead := by
  unfold Statement; decide

theorem render : Statement .render := by
  unfold Statement; decide

theorem reset : Statement .reset := by
  unfold Statement; decide

theorem setAddr (a : Addr) : Statement (.setAddr a) := by
  have h : ((0#2 ++ a : BitVec (2 + 14))).getLsbD 15 = false := by
    rw [BitVec.getLsbD_append]; rfl
  simp only [Statement, inRow, encode, opcodeRow, beq_iff_eq]
  exact (and_bit15 _).trans (if_neg (by rw [Bool.not_eq_true]; exact h))

theorem regWrite (r : Fin 8) (v : Byte) : Statement (.regWrite r v) := by
  have h : ((1#1 ++ 0#4 ++ (BitVec.ofFin r : BitVec 3) ++ v : BitVec (1 + 4 + 3 + 8))).getLsbD 15 = true := by
    rw [BitVec.getLsbD_append, BitVec.getLsbD_append]; rfl
  simp only [Statement, inRow, encode, opcodeRow, beq_iff_eq]
  exact (and_bit15 _).trans (if_pos h)

end Sys2Proof.Laws.EncodesIntoItsRow
end

