-- ==== Sys2Proof/Tests/Slice0.lean ====
section
/-! SUPPORT. Tests. Every expected value is one of spec/95_test_vectors.md or of a rule's worked example, named in the
comment; after them, for each statement that has hypotheses, a state and operands that meet them together. -/

namespace Sys2Proof.Tests

open Sys2Proof Sys2Proof.Machine

/-! ### Well-formedness: the one check and the words it refuses -/

theorem test_wellFormed_refuses_selector_6 : InstrWord.wellFormed (.stim 0x600#11) = false := by decide
theorem test_wellFormed_refuses_selector_7 : InstrWord.wellFormed (.stim 0x7FF#11) = false := by decide
theorem test_wellFormed_takes_the_last_selector : InstrWord.wellFormed (.stim 0x5FF#11) = true := by decide

/-! ### Decoding: words written out from 30_encoding.md (95_test_vectors.md V1) -/

theorem test_decode_dataWrite : decodeStim 0b00010100101#11 = .ok (.dataWrite 0xA5#8) := by decide
theorem test_decode_dataRead : decodeStim 0b00100000000#11 = .ok .dataRead := by decide
theorem test_decode_dataRead_ignores_data : decodeStim 0b00111111111#11 = .ok .dataRead := by decide
theorem test_decode_ctrlWrite : decodeStim 0b01001000001#11 = .ok (.ctrlWrite 0x41#8) := by decide
theorem test_decode_statusRead : decodeStim 0b01101111110#11 = .ok .statusRead := by decide
theorem test_decode_render : decodeStim 0b10000000000#11 = .ok .render := by decide
theorem test_decode_reset : decodeStim 0b10100000000#11 = .ok .reset := by decide
theorem test_decode_invalid_6 : decodeStim 0x600#11 = .error (.namesNoStimulus 6#3) := by decide
theorem test_decode_invalid_7 : decodeStim 0x7FF#11 = .error (.namesNoStimulus 7#3) := by decide
theorem test_decode_setAddr : decodeCmd (cmdWord 0x34#8 0x12#8) = .setAddr 0x1234#14 := by decide
theorem test_decode_setAddr_ignores_bit_6 : decodeCmd 0x7FFF#16 = .setAddr 0x3FFF#14 := by decide
theorem test_decode_regWrite : decodeCmd (cmdWord 0x41#8 0x83#8) = .regWrite 3 0x41#8 := by decide
theorem test_decode_regWrite_ignores_bits_6_to_3 : decodeCmd 0xFB41#16 = .regWrite 3 0x41#8 := by decide
theorem test_decode_regWrite_last : decodeCmd 0xFFFF#16 = .regWrite 7 0xFF#8 := by decide
theorem test_decodeTableWord_stim : decodeTableWord 16 0x241 = some (.ctrlWrite 0x41#8) := by decide
theorem test_decodeTableWord_cmd : decodeTableWord 16 0x8341 = some (.regWrite 3 0x41#8) := by decide
theorem test_decodeTableWord_setAddr : decodeTableWord 16 0x1234 = some (.setAddr 0x1234#14) := by decide
theorem test_decodeTableWord_invalid : decodeTableWord 11 0x600 = none := by decide

/-! ### Helpers -/

/-- The next state of an outcome. -/
def after : Host.Outcome State Fault Refusal → Option State
  | .next s => some s
  | .fault _ => none
  | .refused _ => none

/-- The reset state with some VRAM cells and registers written. -/
def small (cells : List (Nat × Byte)) (regs : List (Fin 8 × Byte)) : State :=
  regs.foldl (fun s r => s.writeReg r.1 r.2) (cells.foldl (fun s c => s.vramWrite c.1 c.2) State.reset)

/-- The colour codes of `n` pixels of row `y` from column `x` on. -/
def codes (s : State) (m : FrameMode) (x n y : Nat) : List Nat :=
  (List.range n).map fun k => (s.pixelCode params m (x + k) y).toNat

/-! ### VRAM (95_test_vectors.md S1) -/

theorem test_vram_wraps : (small [(0x4000, 0x77#8), (0xFFFF, 0x01#8)] []).vram = [(0, 0x77#8), (0x3FFF, 0x01#8)] := by decide
theorem test_vram_aliases : (small [(0x0123, 0x5A#8)] []).vramRead 0x4123 = 0x5A#8 := by decide
theorem test_vram_zero_is_not_listed : (small [(5, 0x5A#8), (3, 0x01#8), (5, 0x00#8)] []).vram = [(3, 0x01#8)] := by decide

/-! ### Data port (95_test_vectors.md S2, V3) -/

/-- V3.2 -/
theorem test_dataWrite_wraps : (after (exec (.dataWrite 0x5A#8) { State.reset with ptr := 0x3FFF#14 })).map
    (fun t => (t.vram, t.ptr, t.latchValid)) = some ([(0x3FFF, 0x5A#8)], 0#14, false) := by decide

/-- R155, the worked example, with the latch kept -/
theorem test_dataWrite_keeps_the_latch :
    (after (exec (.dataWrite 0x48#8) { State.reset with ptr := 0x0800#14, latch := 0x11#8, latchValid := true })).map
      (fun t => (t.vramRead 0x0800, t.ptr, t.latch, t.latchValid)) = some (0x48#8, 0x0801#14, 0x11#8, false) := by decide

/-- S2 -/
theorem test_dataRead_returns_the_set_address :
    (after (execAll [.ctrlWrite 0x34#8, .ctrlWrite 0x12#8, .dataRead] (small [(0x1234, 0x5A#8), (0x1235, 0xA5#8)] []))).map
      (fun t => (t.outputs, t.ptr, t.latch)) = some ([0x5A#8], 0x1235#14, 0xA5#8) := by decide

/-- V3.3 -/
theorem test_dataRead_wraps :
    (after (execAll [.setAddr 0x3FFF#14, .dataRead, .dataRead]
      (small [(0x3FFF, 0x01#8), (0, 0x02#8), (1, 0x03#8)] []))).map
      (fun t => (t.outputs, t.ptr, t.latch)) = some ([0x01#8, 0x02#8], 1#14, 0x03#8) := by decide

/-- V3.7 -/
theorem test_read_write_read :
    (after (execAll [.setAddr 0x0100#14, .dataRead, .dataWrite 0x99#8, .dataRead, .dataRead]
      (small [(0x100, 0x11#8), (0x101, 0x22#8), (0x102, 0x33#8), (0x103, 0x44#8)] []))).map
      (fun t => (t.outputs, t.ptr, t.vramRead 0x101)) = some ([0x11#8, 0x22#8, 0x44#8], 0x104#14, 0x99#8) := by decide

/-! ### Control port (95_test_vectors.md S5, S6, V3.1, V3.8, V5.3) -/

/-- V3.1 -/
theorem test_three_control_writes :
    (after (execAll [.ctrlWrite 0x11#8, .ctrlWrite 0x22#8, .ctrlWrite 0x33#8] State.reset)).map
      (fun t => (t.ptr, t.latchValid, t.pending, t.first)) = some (0x2211#14, true, true, 0x33#8) := by decide

/-- S6 -/
theorem test_register_write :
    (after (execAll [.ctrlWrite 0x41#8, .ctrlWrite 0x83#8] State.reset)).map
      (fun t => (t.regs.toList, t.pending, t.colourBase params)) =
      some ([0, 0, 0, 0x41#8, 0, 0, 0, 0], false, 0x1040#14) := by decide

/-- S5 -/
theorem test_status_read_abandons_the_pair :
    (after (execAll [.ctrlWrite 0x12#8, .statusRead, .ctrlWrite 0x83#8] State.reset)).map
      (fun t => (t.outputs, t.reg 3, t.pending, t.first)) = some ([0x00#8], 0x00#8, true, 0x83#8) := by decide

/-- V3.8 -/
theorem test_data_write_keeps_the_pair :
    (after (execAll [.ctrlWrite 0x00#8, .dataWrite 0x77#8, .ctrlWrite 0x40#8, .dataRead] State.reset)).map
      (fun t => (t.outputs, t.ptr, t.latch, t.pending)) = some ([0x77#8], 1#14, 0x00#8, false) := by decide

/-- S4 -/
theorem test_status_read_clears :
    (after (execAll [.render, .render, .statusRead, .statusRead] State.reset)).map
      (fun t => (t.outputs, t.status)) = some ([0x80#8, 0x00#8], 0x00#8) := by decide

/-! ### Decoders (95_test_vectors.md V2) -/

theorem test_mode_ignores_other_bits : (small [] [(0, 0xFD#8), (1, 0x10#8)]).mode = .text := by decide
theorem test_mode_graphics1 : (small [] [(1, 0xE7#8)]).mode = .graphics1 := by decide
theorem test_mode_unsupported : (small [] [(0, 0x02#8), (1, 0x10#8)]).mode = .unsupported := by decide
theorem test_effectiveMode_honoured : (small [] [(1, 0x10#8)]).effectiveMode Params.default = .blank := by decide
theorem test_effectiveMode_ignored :
    (small [] [(1, 0x10#8)]).effectiveMode { Params.default with blankHonoured := false } = .text := by decide
theorem test_nameBase : (small [] [(2, 0xF5#8)]).nameBase params = some 0x1400#14 := by decide
theorem test_patternBase : (small [] [(4, 0xFF#8)]).patternBase params = some 0x3800#14 := by decide
theorem test_colourBase : (small [] [(3, 0xFF#8)]).colourBase params = 0x3FC0#14 := by decide
theorem test_colours : ((small [] [(7, 0xF4#8)]).textFg, (small [] [(7, 0xF4#8)]).backdrop) = (15#4, 4#4) := by decide

/-- V5.2 -/
theorem test_interrupt_output :
    ({ small [] [(1, 0xE0#8)] with status := 0x80#8 }.intOutput, (small [] [(1, 0x20#8)]).intOutput,
      { State.reset with status := 0x80#8 }.intOutput) = (true, false, false) := by decide

/-! ### Pictures (95_test_vectors.md P3, P4, V4) -/

/-- The state before the `RENDER` of program P3. -/
def textState : State :=
  small [(0x240, 0x88#8), (0x241, 0x88#8), (0x242, 0x88#8), (0x243, 0xF8#8), (0x244, 0x88#8), (0x245, 0x88#8),
      (0x246, 0x88#8), (0x247, 0x03#8), (0x248, 0x70#8), (0x249, 0x20#8), (0x24A, 0x20#8), (0x24B, 0x20#8),
      (0x24C, 0x20#8), (0x24D, 0x20#8), (0x24E, 0x70#8), (0x800, 0x48#8), (0x801, 0x49#8)]
    [(1, 0x50#8), (2, 0x02#8), (7, 0xF4#8)]

theorem test_text_mode : textState.effectiveMode params = .text := by decide
theorem test_text_row_0 : codes textState .text 0 18 0 =
    [15, 4, 4, 4, 15, 4, 4, 15, 15, 15, 4, 4, 4, 4, 4, 4, 4, 4] := by decide
theorem test_text_row_3 : codes textState .text 0 18 3 =
    [15, 15, 15, 15, 15, 4, 4, 4, 15, 4, 4, 4, 4, 4, 4, 4, 4, 4] := by decide
theorem test_text_row_7_hides_two_bits : codes textState .text 0 6 7 = [4, 4, 4, 4, 4, 4] := by decide

/-- The state of V4.4, with P4's names in cells 1 and 2 for the colour group. -/
def graphicsState : State :=
  small [(0x1400, 0x21#8), (0x908, 0x81#8), (0x2004, 0xA1#8), (0x1401, 0x27#8), (0x938, 0xC3#8)]
    [(1, 0x40#8), (2, 0x05#8), (3, 0x80#8), (4, 0x01#8), (7, 0x07#8)]

theorem test_graphics1_mode : graphicsState.effectiveMode params = .graphics1 := by decide
theorem test_graphics1_row : codes graphicsState .graphics1 0 8 0 = [10, 1, 1, 1, 1, 1, 1, 10] := by decide
theorem test_graphics1_group : codes graphicsState .graphics1 8 8 0 = [10, 10, 1, 1, 1, 1, 10, 10] := by decide
/-- V4.9: code 0 is not replaced by the backdrop. -/
theorem test_graphics1_code_zero : codes graphicsState .graphics1 16 8 0 = [0, 0, 0, 0, 0, 0, 0, 0] := by decide

/-- R203 with `PIXEL_BITS = 4` and each code packed as itself: the first pixel of P3's picture is its code, 15. -/
theorem test_palette_of_another_width :
    (textState.frame { params with pixelBits := 4, palette := id }).px[0 * frameWidth .text + 0]? = some 15#4 :=
  (textState.frame_get { params with pixelBits := 4, palette := id } 0 0 (by decide) (by decide)).trans (by decide)

/-- V4.1 -/
theorem test_flat_frame : (small [] [(0, 0x02#8), (1, 0x40#8), (7, 0x17#8)]).effectiveMode params = .blank ∧
    codes (small [] [(0, 0x02#8), (1, 0x40#8), (7, 0x17#8)]) .blank 254 2 191 = [7, 7] := by decide

/-! ### Pseudo-operations (30_encoding.md R102 to R106) -/

/-- R104, D0's own example -/
theorem test_pseudoSetReg : pseudoSetReg 3 0x41#8 = [.ctrlWrite 0x41#8, .ctrlWrite 0x83#8] := by decide
/-- P2's writes and the read back across the top of VRAM -/
theorem test_pseudo_write_and_read :
    (after (execAll (pseudoVWrite 0x3FFE#14 [0xAA#8, 0xBB#8, 0xCC#8] ++ pseudoVRead 0x3FFE#14 3) State.reset)).map
      (fun t => (t.outputs, t.vram, t.ptr)) =
      some ([0xAA#8, 0xBB#8, 0xCC#8], [(0, 0xCC#8), (0x3FFE, 0xAA#8), (0x3FFF, 0xBB#8)], 1#14) := by decide

/-! ### The step -/

theorem test_step_takes_the_oldest_word :
    (after (step { State.reset with inputs := [0x0A5#11, 0x100#11] })).map (fun t => (t.vram, t.ptr, t.inputs)) =
      some ([(0, 0xA5#8)], 1#14, [0x100#11]) := by decide

theorem test_step_refuses_selector_7 : step { State.reset with inputs := [0x7FF#11] } = .refused (.namesNoStimulus 7#3) :=
  step_invalid _ _ [] _ rfl (by decide)

theorem test_withFetchWord_regWrite :
    (after (step (State.reset.withFetchWord 16 0x8341))).map (fun t => (t.reg 3, t.pending, t.inputs)) =
      some (0x41#8, false, []) := by decide

theorem test_withFetchWord_setAddr :
    (after (step (State.reset.withFetchWord 16 0x1234))).map (fun t => (t.ptr, t.latchValid, t.pending)) =
      some (0x1234#14, true, false) := by decide

theorem test_withFetchWord_render :
    (after (step (State.reset.withFetchWord 16 0x400))).map (fun t => t.status) = some 0x80#8 := by decide

/-- V5.1 -/
theorem test_reset :
    (after (exec .reset { graphicsState with ptr := 5#14, pending := true, latchValid := true, status := 0x80#8 })).map
      (fun t => (t.vram, t.regs.toList, t.status, t.ptr)) =
      some ([], [0, 0, 0, 0, 0, 0, 0, 0], 0#8, 0#14) := by decide

/-! ### Witnesses of the hypotheses -/

theorem witness_DecodingAnEncodedInstructionGivesItBack : Instr.wellFormed (.regWrite 7 0xFF#8) = true := by decide

theorem witness_EncodingADecodedWordDropsOnlyIgnoredBits :
    decode (.cmd 0x7FFF#16) = .ok (.setAddr 0x3FFF#14) ∧ decode (.stim 0x1FF#11) = .ok .dataRead := by decide

theorem witness_PairBytesFormTheCommand : (0x7F#8).getLsbD 7 = false ∧ (0x80#8).getLsbD 7 = true := by decide

theorem witness_OnlySelectorsSixAndSevenAreRejected :
    decode (.stim 0x600#11) = .error (.namesNoStimulus 6#3) ∧ decode (.stim 0x5FF#11) = .ok .reset := by decide

theorem witness_DecodingFollowsTheOpcodeTable :
    decode (.stim 0x1FF#11) = .ok .dataRead ∧
    inRow (.stim 0x2FF#11) (opcodeRow (.ctrlWrite 0#8)) = true ∧ inRow (.stim 0x2FF#11) (opcodeRow (.ctrlWrite 1#8)) = true := by
  decide

theorem witness_StepRunsTheDecodedStimulus :
    State.reset.inputs = [] ∧ decodeStim 0x5FF#11 = .ok .reset ∧ decodeStim 0x600#11 = .error (.namesNoStimulus 6#3) ∧
    { State.reset with inputs := [0x5FF#11] }.inputs = 0x5FF#11 :: [] ∧
    { State.reset with inputs := [0x600#11] }.inputs = 0x600#11 :: [] := by decide

theorem witness_StepRunsTheCommandOfACompletedPair :
    let s := { State.reset with inputs := [0x27F#11], pending := true }
    s.inputs = 0x27F#11 :: [] ∧ decodeStim 0x27F#11 = .ok (.ctrlWrite 0x7F#8) ∧ s.pending = true := by decide

theorem witness_PlacedTableWordRunsNext :
    tableWord 16 0x5FF = some (.stim 0x5FF#11) ∧ decodeStim 0x5FF#11 = .ok .reset ∧
    tableWord 16 0x600 = some (.cmd 0x600#16) ∧ tableWord 16 0xFFFF = some (.cmd 0xFFFF#16) := by decide

theorem witness_EveryStimulusCompletesInEveryState :
    ∀ w ws, { State.reset with inputs := [0x5FF#11] }.inputs = w :: ws → StimWord.wellFormed w = true := by
  intro w ws h
  cases h; decide

theorem witness_RunPerformsTheIssuedStimuliInOrder :
    List.Forall₂ (fun w i => decodeStim w = .ok i) [0x0A5#11, 0x100#11] [.dataWrite 0xA5#8, .dataRead] :=
  .cons (by decide) (.cons (by decide) .nil)

theorem witness_CanonicalMemoriesThatReadAlikeAreEqual :
    Memory.wf [(0, 0x01#8), (0x3FFF, 0xFF#8)] ∧
    ∀ a, Memory.read [(0, 0x01#8), (0x3FFF, 0xFF#8)] a = Memory.read [(0, 0x01#8), (0x3FFF, 0xFF#8)] a :=
  ⟨by decide, fun _ => rfl⟩

theorem witness_DataReadReturnsTheLatchAndRefetches :
    ({ State.reset with latchValid := true }.latchValid = true ∨ params.invalidLatchRead = .stale) ∧
    (State.reset.latchValid = false ∧ params.invalidLatchRead = .stale) := by decide

theorem witness_WriteRunStoresConsecutively :
    [0x11#8, 0x22#8] ≠ [] ∧ 1 < [0x11#8, 0x22#8].length ∧ [0x11#8, 0x22#8].length ≤ 1 + 16384 ∧
    ∀ k, k < [0x11#8, 0x22#8].length → (State.reset.ptr.toNat + k) % 16384 ≠ 2 % 16384 := by decide

theorem witness_WrittenRunReadsBackInOrder : [0xAA#8, 0xBB#8, 0xCC#8].length ≤ 16384 := by decide

theorem witness_CtrlWriteHoldsAByteThenResolvesThePair :
    State.reset.pending = false ∧ { State.reset with pending := true }.pending = true ∧
    (0x7F#8).getLsbD 7 = false ∧ (0x80#8).getLsbD 7 = true := by decide

theorem witness_RegWriteChangesOneRegister : (6 : Fin 8) ≠ 7 ∧ (0 : Fin 8) ≠ 7 := by decide

theorem witness_StatusReadReturnsThenClearsTheFrameFlag : (0 : Nat) ≠ 7 ∧ (6 : Nat) ≠ 7 := by decide

theorem witness_ThirdControlByteStartsANewPair : State.reset.pending = false := by decide

theorem witness_PseudoOperationsPerformTheirCommands : State.reset.pending = false := by decide

theorem witness_OnlyControlPortAndResetTouchAPendingPair :
    exec (.ctrlWrite 0x12#8) State.reset = .next (State.reset.holdFirst 0x12#8) ∧
    (State.reset.holdFirst 0x12#8).pending ≠ State.reset.pending ∧ (State.reset.holdFirst 0x12#8).first ≠ State.reset.first :=
  ⟨rfl, by decide, by decide⟩

theorem witness_ModeBitsSelectTheMode :
    ((State.reset.reg 1).getLsbD 6 = false ∧ Params.default.blankHonoured = true) ∧
    ((small [] [(1, 0x40#8)]).reg 1).getLsbD 6 = true ∧ (small [] [(1, 0x40#8)]).mode = .graphics1 ∧
    ((small [] [(1, 0x50#8)]).reg 1).getLsbD 6 = true ∧ (small [] [(1, 0x50#8)]).mode = .text ∧
    ((small [] [(1, 0x48#8)]).reg 1).getLsbD 6 = true ∧ (small [] [(1, 0x48#8)]).mode = .unsupported ∧
    { Params.default with blankHonoured := false }.blankHonoured = false := by decide

theorem witness_RegisterThreeWriteMovesTheColourTable : State.reset.pending = false := by decide

theorem witness_RenderDrawsEveryPixelAndSetsTheFrameFlag :
    239 < (textState.frame params).width ∧ 191 < (textState.frame params).height ∧
    255 < (graphicsState.frame params).width ∧ (0 : Nat) ≠ 7 := by decide

theorem witness_FrameDependsOnlyOnRegistersAndVram :
    (State.reset.regs = { State.reset with ptr := 5#14, latch := 0xFF#8 }.regs ∧
      ∀ a, State.reset.vramRead a = { State.reset with ptr := 5#14, latch := 0xFF#8 }.vramRead a) ∧
    ∃ t, exec .render State.reset = .next t :=
  ⟨⟨rfl, fun _ => rfl⟩, _, exec_render _⟩

theorem witness_EveryPaletteDrawsTheSameCodes :
    239 < frameWidth (textState.effectiveMode params) ∧ 255 < frameWidth (graphicsState.effectiveMode params) ∧
    191 < 192 := by decide

theorem witness_Graphics1PixelFollowsNamePatternAndColourTables :
    (graphicsState.reg 0).getLsbD 1 = false ∧ (graphicsState.reg 1).getLsbD 3 = false ∧
    (graphicsState.reg 1).getLsbD 4 = false ∧ (graphicsState.reg 1).getLsbD 6 = true ∧ 255 < 256 ∧ 191 < 192 := by decide

theorem witness_TextPixelFollowsNameAndPatternTables :
    (textState.reg 0).getLsbD 1 = false ∧ (textState.reg 1).getLsbD 3 = false ∧
    (textState.reg 1).getLsbD 4 = true ∧ (textState.reg 1).getLsbD 6 = true ∧ 239 < 240 ∧ 191 < 192 := by decide

/-- Two cells with different names of one group, and a foreground pixel of each. -/
theorem witness_NamesOfOneGroupShareTheirColours :
    graphicsState.graphics1Name params 0 0 ≠ graphicsState.graphics1Name params 8 0 ∧
    (graphicsState.graphics1Name params 0 0).toNat / 8 = (graphicsState.graphics1Name params 8 0).toNat / 8 ∧
    (graphicsState.patternLine params .g1 (graphicsState.graphics1Name params 0 0) 0).getLsbD (7 - 0 % 8) =
      (graphicsState.patternLine params .g1 (graphicsState.graphics1Name params 8 0) 0).getLsbD (7 - 8 % 8) := by decide

theorem witness_UnsupportedModeRendersAFlatFrame : (small [] [(0, 0x02#8)]).mode = .unsupported := by decide

theorem witness_BlankingFollowsItsParameter :
    (Params.default.blankHonoured = true ∧ (small [] [(1, 0x10#8)]).displayEnabled = false) ∧
    { Params.default with blankHonoured := false }.blankHonoured = false ∧
    0x50#8 = (small [] [(1, 0x10#8)]).reg 1 ||| 0x40#8 := by decide

/-- Each of the cases: the flag set by a frame, cleared by a status read and by a reset, and left alone. -/
theorem witness_FrameFlagRisesAtRenderAndFallsAtStatusRead :
    (∃ t, exec .render State.reset = .next t) ∧ (∃ t, exec .statusRead { State.reset with status := 0x80#8 } = .next t) ∧
    (∃ t, exec .reset { State.reset with status := 0x80#8 } = .next t ∧ t.frameFlag = false) ∧
    (∃ t, exec (.dataWrite 1#8) { State.reset with status := 0xFF#8 } = .next t ∧ t.status.getLsbD 6 = true) :=
  ⟨⟨_, exec_render _⟩, ⟨_, exec_statusRead _⟩, ⟨_, exec_reset _, by decide⟩, ⟨_, exec_dataWrite _ _, by decide⟩⟩

theorem witness_OnlyDataWriteAndResetChangeVram :
    ∃ t, exec (.dataWrite 0x5A#8) State.reset = .next t ∧ t.vram ≠ State.reset.vram :=
  ⟨_, exec_dataWrite _ _, by decide⟩

theorem witness_OnlyRegWriteAndResetChangeControlRegisters :
    (∃ t, exec (.regWrite 7 0xF4#8) State.reset = .next t ∧ t.reg 7 ≠ State.reset.reg 7) ∧
    ∃ t, exec (.ctrlWrite 0x87#8) { State.reset with pending := true, first := 0xF4#8 } = .next t ∧
      t.reg 7 ≠ { State.reset with pending := true, first := 0xF4#8 }.reg 7 :=
  ⟨⟨_, exec_regWrite _ _ _, by decide⟩, ⟨_, exec_ctrlWrite_second _ _ (by decide), by decide⟩⟩

/-- Each case: the framebuffer at a frame and a reset; the pointer at an address set, the second byte of one, a write at the
top of VRAM, a read there, and a reset. -/
theorem witness_FramebufferAndPointerHaveOnlyTheirWriters :
    let pair := { State.reset with pending := true, first := 0xFF#8 }
    let top := { State.reset with ptr := 0x3FFF#14, fb := some ⟨0, 0, []⟩ }
    (∃ t, exec .render State.reset = .next t ∧ t.fb ≠ State.reset.fb) ∧
    (∃ t, exec .reset top = .next t ∧ t.fb ≠ top.fb ∧ t.ptr ≠ top.ptr) ∧
    (∃ t, exec (.setAddr 0x3FFF#14) State.reset = .next t ∧ t.ptr ≠ State.reset.ptr) ∧
    (∃ t, exec (.ctrlWrite 0x7F#8) pair = .next t ∧ t.ptr ≠ pair.ptr) ∧
    (∃ t, exec (.dataWrite 0x5A#8) top = .next t ∧ t.ptr ≠ top.ptr) ∧
    ∃ t, exec .dataRead top = .next t ∧ t.ptr ≠ top.ptr :=
  ⟨⟨_, exec_render _, by simp [State.reset]⟩, ⟨_, exec_reset _, by simp [State.reset], by decide⟩,
    ⟨_, exec_setAddr _ _, by decide⟩, ⟨_, exec_ctrlWrite_second _ _ rfl, by decide⟩, ⟨_, exec_dataWrite _ _, by decide⟩,
    ⟨_, exec_dataRead _, by decide⟩⟩

theorem witness_OnlyReadsHandTheHostAByte :
    (∃ t, exec .dataRead State.reset = .next t) ∧ (∃ t, exec .render State.reset = .next t) :=
  ⟨⟨_, exec_dataRead _⟩, ⟨_, exec_render _⟩⟩

theorem witness_StepKeepsTheInvariants :
    { State.reset with inputs := [0x05A#11] }.Inv ∧ ∃ t, step { State.reset with inputs := [0x05A#11] } = .next t :=
  ⟨⟨by decide, .inl rfl, by simp [State.reset], by simp [State.reset]⟩, _,
    (step_stimulus _ 0x05A#11 [] (.dataWrite 0x5A#8) rfl (by decide)).trans (exec_dataWrite _ _)⟩

theorem witness_ReachableStatesSatisfyTheInvariants : Reachable (State.reset.setInputs [0x400#11]) :=
  .issued _ _ .reset

theorem witness_StepIsSafeWhenTheWordNamesAStimulus :
    { State.reset with inputs := [0x400#11] }.Inv ∧
    ∀ w ws, { State.reset with inputs := [0x400#11] }.inputs = w :: ws → StimWord.wellFormed w = true :=
  ⟨⟨by decide, .inl rfl, by simp [State.reset], by simp [State.reset]⟩, by intro w ws h; cases h; decide⟩

end Sys2Proof.Tests
end

namespace Sys2Proof.Machine

/-! ## The step (00_scope.md R6, R7, R10): it always completes, the queue plays no part in it, and only reads return bytes -/

section
variable (i : Instr) (s : State)

/-- A word of selector 0 to 5 names a stimulus (30_encoding.md R91, R98). -/
theorem decodeStim_of_wellFormed (w : StimWord) (h : StimWord.wellFormed w = true) : ∃ i, decodeStim w = .ok i := by
  have hsel : (stimSel w).toNat < 6 := of_decide_eq_true h
  unfold decodeStim
  interval_cases (stimSel w).toNat <;> exact ⟨_, rfl⟩

theorem exec_completes : ∃ t, exec i s = .next t := by
  cases i with
  | dataWrite b => exact ⟨_, exec_dataWrite s b⟩
  | dataRead => exact ⟨_, exec_dataRead s⟩
  | ctrlWrite b => obtain ⟨-, h⟩ | ⟨-, -, h⟩ | ⟨-, -, h⟩ := exec_ctrlWrite_cases s b <;> exact ⟨_, h⟩
  | statusRead => exact ⟨_, exec_statusRead s⟩
  | render => exact ⟨_, exec_render s⟩
  | reset => exact ⟨_, exec_reset s⟩
  | setAddr a => exact ⟨_, exec_setAddr s a⟩
  | regWrite r v => exact ⟨_, exec_regWrite s r v⟩

theorem step_completes (h : ∀ w ws, s.inputs = w :: ws → StimWord.wellFormed w = true) : ∃ t, step s = .next t := by
  match hin : s.inputs with
  | [] => exact ⟨s, step_idle s hin⟩
  | w :: ws =>
    obtain ⟨i, hi⟩ := decodeStim_of_wellFormed w (h w ws hin)
    rw [step_stimulus s w ws i hin hi]
    exact exec_completes i _

@[simp] theorem State.setInputs_setInputs (vs ws : List StimWord) : (s.setInputs vs).setInputs ws = s.setInputs ws := rfl

/-- What is queued plays no part in what an instruction does (00_scope.md R7; the queue is log entry 1): with another
queue it does the same and leaves that queue. -/
theorem exec_setInputs (t : State) (ws : List StimWord) (h : exec i s = .next t) :
    exec i (s.setInputs ws) = .next (t.setInputs ws) := by
  cases i with
  | ctrlWrite b =>
    obtain ⟨hp, hs⟩ | ⟨hp, hc, hs⟩ | ⟨hp, hc, hs⟩ := exec_ctrlWrite_cases s b <;> cases hs.symm.trans h
    · exact exec_ctrlWrite_first (s.setInputs ws) b hp
    all_goals rw [exec_ctrlWrite_second (s.setInputs ws) b hp, State.setInputs_first, decodeCmd, hc]; rfl
  | dataWrite | dataRead | statusRead | render | reset | setAddr | regWrite => cases h; rfl

/-- No instruction takes from the queue or adds to it (log entries 1 and 13). -/
theorem exec_inputs (t : State) (h : exec i s = .next t) : t.inputs = s.inputs := by
  have hself : exec i s = .next (t.setInputs s.inputs) := exec_setInputs i s t s.inputs h
  have ht : t = t.setInputs s.inputs := Host.Outcome.next.inj (h.symm.trans hself)
  rw [ht, State.setInputs_inputs]

/-- The bytes an instruction returns to the host: one for each of the two reads, the latch (41_port_state_machine.md R156)
and the status (R154). -/
def State.returned : Instr → List Byte
  | .dataRead => [s.latchByte params]
  | .statusRead => [s.status]
  | _ => []

theorem State.returned_of_not_read (hdata : i ≠ .dataRead) (hstatus : i ≠ .statusRead) : s.returned i = [] := by
  cases i with
  | dataRead => exact absurd rfl hdata
  | statusRead => exact absurd rfl hstatus
  | dataWrite | ctrlWrite | render | reset | setAddr | regWrite => rfl

theorem exec_outputs (t : State) (h : exec i s = .next t) : t.outputs = s.outputs ++ s.returned i := by
  cases i with
  | ctrlWrite b =>
    obtain ⟨-, hs⟩ | ⟨-, -, hs⟩ | ⟨-, -, hs⟩ := exec_ctrlWrite_cases s b <;> cases hs.symm.trans h <;>
      simp [State.returned]
  | dataRead | statusRead => cases h; rfl
  | dataWrite | render | reset | setAddr | regWrite => cases h; exact (List.append_nil _).symm

end

/-! ## Runs: a run from a queue is its stimuli performed in order -/

theorem execAll_cons (i : Instr) (is : List Instr) (s t : State) (h : exec i s = .next t) :
    execAll (i :: is) s = execAll is t := by
  simp [execAll, h]

theorem run_core_succ (k : Nat) (s t : State) (h : step s = .next t) :
    Host.Core.run core (k + 1) s = Host.Core.run core k t := by
  simp [Host.Core.run, core, h]

/-- A step takes a decoded stimulus from the head of the queue and leaves the rest queued. -/
theorem step_setInputs_cons (w : StimWord) (ws : List StimWord) (i : Instr) (s t : State) (hi : decodeStim w = .ok i)
    (h : exec i s = .next t) : step (s.setInputs (w :: ws)) = .next (t.setInputs ws) := by
  rw [step_stimulus _ w ws i rfl hi, State.setInputs_setInputs]
  exact exec_setInputs i s t ws h

theorem run_eq_execAll (is : List Instr) (ws rest : List StimWord) (s : State)
    (hd : List.Forall₂ (fun w i => decodeStim w = .ok i) ws is) :
    ∃ t, execAll is s = .next t ∧
      Host.Core.run core ws.length (s.setInputs (ws ++ rest)) = .next (t.setInputs rest) := by
  induction hd generalizing s with
  | nil => exact ⟨s, rfl, rfl⟩
  | @cons w i ws is hi _ ih =>
    obtain ⟨u, hu⟩ := exec_completes i s
    obtain ⟨t, hall, hrun⟩ := ih u
    refine ⟨t, (execAll_cons i is s u hu).trans hall, ?_⟩
    exact (run_core_succ ws.length _ _ (step_setInputs_cons w (ws ++ rest) i s u hi hu)).trans hrun

/-! ## Packing: the mode and the colour codes do not depend on the packed pixels (42_mode_renderer.md R203) -/

section
variable (p : Params) (bits : Nat) (pal : Colour → Pixel bits) (s : State)

/-- The code of each mode reads the masks and shifts alone, or no parameter at all. -/
theorem State.pixelCode_of_palette (m : FrameMode) (x y : Nat) :
    s.pixelCode { p with pixelBits := bits, palette := pal } m x y = s.pixelCode p m x y := by
  cases m <;> rfl

theorem State.effectiveMode_of_palette :
    s.effectiveMode { p with pixelBits := bits, palette := pal } = s.effectiveMode p := rfl

end

/-! ## The obligations -/

/-- Settles O11: every instruction has a meaning in every state, and a well-formed word names an instruction. -/
theorem everyStimulusCompletesInEveryState : Obligations.EveryStimulusCompletesInEveryState :=
  ⟨exec_completes, step_completes⟩

/-- Settles O12, by induction on the queued words, as the rest of the queue plays no part in a step. -/
theorem runPerformsTheIssuedStimuliInOrder : Obligations.RunPerformsTheIssuedStimuliInOrder :=
  run_eq_execAll

/-- Settles O50, from what each instruction returns and its leaving the queue alone. -/
theorem onlyReadsHandTheHostAByte : Obligations.OnlyReadsHandTheHostAByte := by
  intro i s t h
  have hout : t.outputs = s.outputs ++ s.returned i := exec_outputs i s t h
  refine ⟨?_, ?_, exec_inputs i s t h⟩
  · rintro (rfl | rfl)
    · exact ⟨s.latchByte params, hout⟩
    · exact ⟨s.status, hout⟩
  · intro hdata hstatus
    rw [hout, State.returned_of_not_read i s hdata hstatus, List.append_nil]

/-- Settles O55: the frame's pixel is its code through the palette, and neither the code nor the mode reads the
palette. -/
theorem everyPaletteDrawsTheSameCodes : Obligations.EveryPaletteDrawsTheSameCodes := by
  intro p bits pal s x y
  refine ⟨fun m => s.pixelCode_of_palette p bits pal m x y, fun hx hy => ?_⟩
  have hget := s.frame_get { p with pixelBits := bits, palette := pal } x y
  rw [s.effectiveMode_of_palette, s.pixelCode_of_palette] at hget
  exact hget hx hy

/-- Settles O8, one law of the step for each thing that can stand at the head of the queue. -/
theorem stepRunsTheDecodedStimulus : Obligations.StepRunsTheDecodedStimulus :=
  fun s => ⟨step_idle s, step_stimulus s, step_invalid s⟩

end Sys2Proof.Machine

namespace Sys2Proof.Machine

/-! ## Canonical VRAM: its cells are what it reads (10_state.md R21; the form is log entry 21) -/

/-- An address that reads something else than an unlisted one is listed with what it reads. -/
theorem Memory.mem_of_read_ne (m : Memory) (a : Nat) (h : Memory.read m a ≠ unwrittenByte) :
    (a, Memory.read m a) ∈ m := by
  induction m with
  | nil => exact absurd rfl h
  | cons c m ih =>
    by_cases hc : c.1 = a
    · subst hc; simp [Memory.read]
    · simp only [Memory.read, hc, if_false] at h ⊢
      exact List.mem_cons_of_mem c (ih h)

/-- With rising addresses no cell hides another: each is read. -/
theorem Memory.read_of_mem (m : Memory) (hm : m.Pairwise (fun c d => c.1 < d.1)) (c : Host.Cell) (hc : c ∈ m) :
    Memory.read m c.1 = c.2 := by
  induction hm with
  | nil => cases hc
  | @cons d m hd _ ih =>
    obtain rfl | hc := List.mem_cons.1 hc
    · simp [Memory.read]
    · have hne : d.1 ≠ c.1 := (hd c hc).ne
      simp [Memory.read, hne, ih hc]

theorem Memory.mem_iff_read (m : Memory) (hm : Memory.wf m) (c : Host.Cell) :
    c ∈ m ↔ c.2 ≠ unwrittenByte ∧ Memory.read m c.1 = c.2 := by
  obtain ⟨hrise, hcells⟩ := hm
  constructor
  · exact fun hc => ⟨(hcells c hc).2, Memory.read_of_mem m hrise c hc⟩
  · rintro ⟨hne, hread⟩
    have hmem := Memory.mem_of_read_ne m c.1 (hread ▸ hne)
    rwa [hread] at hmem

theorem Memory.eq_of_read_eq (m n : Memory) (hm : Memory.wf m) (hn : Memory.wf n)
    (h : ∀ a, Memory.read m a = Memory.read n a) : m = n := by
  have hmrise : m.Pairwise (Prod.fst ⁻¹'o (· < ·)) := hm.1
  refine hmrise.eq_of_mem_iff hn.1 fun c => ?_
  rw [Memory.mem_iff_read m hm, Memory.mem_iff_read n hn, h]

/-! ## What an instruction can do, as a case principle -/

/-- Bit 7 of the second byte selects `REG_WRITE` (30_encoding.md R93, R94). -/
theorem cmdIsRegWrite_cmdWord (first second : Byte) : cmdIsRegWrite (cmdWord first second) = second.getLsbD 7 :=
  BitVec.getLsbD_append

/-- The register is bits 2:0 of the second byte (30_encoding.md R96). -/
theorem cmdReg_cmdWord (first second : Byte) : (cmdReg (cmdWord first second)).val = second.toNat % 8 := by
  have hreg : (second ++ first).extractLsb' 8 3 = second.extractLsb' 0 3 :=
    BitVec.extractLsb'_append_eq_of_le (by decide)
  simp [cmdReg, cmdWord, hreg]

/-- The value is the first byte (30_encoding.md R93, R96). -/
theorem cmdValue_cmdWord (first second : Byte) : cmdValue (cmdWord first second) = first :=
  BitVec.extractLsb'_append_eq_right

section
variable {s : State} {motive : (i : Instr) → (t : State) → exec i s = .next t → Prop}

/-- A case for each thing an instruction can do, a `CTRL_WRITE` counted three times: it holds a first byte, or it
completes an address set-up or a register write (41_port_state_machine.md R151). -/
theorem exec_next_cases
    (dataWrite : ∀ b, motive (.dataWrite b) _ (exec_dataWrite s b))
    (dataRead : motive .dataRead _ (exec_dataRead s))
    (ctrlFirst : ∀ b (hp : s.pending = false), motive (.ctrlWrite b) _ (exec_ctrlWrite_first s b hp))
    (ctrlAddr : ∀ b a (_ : s.pending = true) (_ : b.getLsbD 7 = false)
      (_ : decodeCmd (cmdWord s.first b) = .setAddr a)
      (h : exec (.ctrlWrite b) s = .next (s.clearPending.setPtr a).fetchLatch), motive (.ctrlWrite b) _ h)
    (ctrlReg : ∀ b r (_ : s.pending = true) (_ : b.getLsbD 7 = true) (_ : r.val = b.toNat % 8)
      (_ : decodeCmd (cmdWord s.first b) = .regWrite r s.first)
      (h : exec (.ctrlWrite b) s = .next (s.clearPending.writeReg r s.first)), motive (.ctrlWrite b) _ h)
    (statusRead : motive .statusRead _ (exec_statusRead s))
    (render : motive .render _ (exec_render s))
    (reset : motive .reset _ (exec_reset s))
    (setAddr : ∀ a, motive (.setAddr a) _ (exec_setAddr s a))
    (regWrite : ∀ r v, motive (.regWrite r v) _ (exec_regWrite s r v))
    {i : Instr} {t : State} (h : exec i s = .next t) : motive i t h := by
  cases i with
  | dataWrite b => cases h; exact dataWrite b
  | dataRead => cases h; exact dataRead
  | ctrlWrite b =>
    obtain ⟨hp, hs⟩ | ⟨hp, hc, hs⟩ | ⟨hp, hc, hs⟩ := exec_ctrlWrite_cases s b
    · cases hs.symm.trans h
      exact ctrlFirst b hp
    · cases hs.symm.trans h
      have hcmd : decodeCmd (cmdWord s.first b) = .setAddr (cmdAddr (cmdWord s.first b)) := by simp [decodeCmd, hc]
      exact ctrlAddr b _ hp (cmdIsRegWrite_cmdWord s.first b ▸ hc) hcmd hs
    · rw [cmdValue_cmdWord] at hs
      cases hs.symm.trans h
      have hcmd : decodeCmd (cmdWord s.first b) = .regWrite (cmdReg (cmdWord s.first b)) s.first := by
        simp [decodeCmd, hc, cmdValue_cmdWord]
      exact ctrlReg b _ hp (cmdIsRegWrite_cmdWord s.first b ▸ hc) (cmdReg_cmdWord s.first b) hcmd hs
  | statusRead => cases h; exact statusRead
  | render => cases h; exact render
  | reset => cases h; exact reset
  | setAddr a => cases h; exact setAddr a
  | regWrite r v => cases h; exact regWrite r v

end

/-! ## The invariants of 10_state.md R44, update by update -/

/-- Whatever the registers say, the frame drawn is a whole one of one of the two sizes (42_mode_renderer.md R183). -/
theorem State.frame_sized (p : Params) (s : State) : (s.frame p).sized := by
  refine ⟨?_, s.frame_length p⟩
  rw [s.frame_width, s.frame_height]
  cases s.effectiveMode p <;> simp [frameWidth]

section
variable {s : State} (h : s.Inv)
include h

theorem State.Inv.setInputs (ws : List StimWord) : (s.setInputs ws).Inv := ⟨h.vram, h.status, h.fb, h.latch⟩

theorem State.Inv.reply (v : Byte) : (s.reply v).Inv := ⟨h.vram, h.status, h.fb, h.latch⟩

theorem State.Inv.holdFirst (b : Byte) : (s.holdFirst b).Inv := ⟨h.vram, h.status, h.fb, h.latch⟩

theorem State.Inv.clearPending : s.clearPending.Inv := ⟨h.vram, h.status, h.fb, h.latch⟩

theorem State.Inv.writeReg (r : Fin 8) (v : Byte) : (s.writeReg r v).Inv := ⟨h.vram, h.status, h.fb, h.latch⟩

theorem State.Inv.showFrame (f : Frame Config.pixelBits) (hf : f.sized) : (s.showFrame f).Inv :=
  ⟨h.vram, h.status, fun _ hg => Option.some.inj hg ▸ hf, h.latch⟩

theorem State.Inv.setFrameFlag : s.setFrameFlag.Inv := by
  refine ⟨h.vram, .inr ?_, h.fb, h.latch⟩
  obtain h0 | h80 := h.status
  · simp [h0]
  · simp [h80]

theorem State.Inv.clearFrameFlag : s.clearFrameFlag.Inv := by
  refine ⟨h.vram, .inl ?_, h.fb, h.latch⟩
  obtain h0 | h80 := h.status
  · simp [h0]
  · simp [h80]

/-- A moved pointer may leave the latch behind; the fetch that follows brings it up to date (10_state.md R37, R38). -/
theorem State.Inv.setPtr_fetchLatch (a : Addr) : (s.setPtr a).fetchLatch.Inv :=
  ⟨h.vram, h.status, h.fb, fun _ => rfl⟩

/-- A write may leave the latch stale; it is then no longer marked valid (10_state.md R38, 90_conflicts.md C2). -/
theorem State.Inv.vramWrite_advancePtr_invalidateLatch (a : Nat) (b : Byte) :
    (s.vramWrite a b).advancePtr.invalidateLatch.Inv :=
  ⟨s.vramWrite_wf a b h.vram, h.status, h.fb, by simp⟩

end

/-- The values of 10_state.md R42 with any contents of the host's channels. -/
theorem State.reset_inv (ins : List StimWord) (outs : List Byte) :
    { State.reset with inputs := ins, outputs := outs }.Inv :=
  ⟨Memory.wf_reset, .inl rfl, by simp [State.reset], by simp [State.reset]⟩

theorem exec_inv (i : Instr) (s t : State) (hs : s.Inv) (h : exec i s = .next t) : t.Inv := by
  cases h using exec_next_cases with
  | dataWrite b => exact hs.vramWrite_advancePtr_invalidateLatch _ b
  | dataRead => exact (hs.reply _).setPtr_fetchLatch _
  | ctrlFirst b => exact hs.holdFirst b
  | ctrlAddr b a => exact hs.clearPending.setPtr_fetchLatch a
  | ctrlReg b r => exact hs.clearPending.writeReg r _
  | statusRead => exact (hs.reply _).clearFrameFlag.clearPending
  | render => exact (hs.showFrame _ (s.frame_sized params)).setFrameFlag
  | reset => exact State.reset_inv _ _
  | setAddr a => exact hs.setPtr_fetchLatch a
  | regWrite r v => exact hs.writeReg r v

theorem step_inv (s t : State) (hs : s.Inv) (h : step s = .next t) : t.Inv := by
  obtain ⟨-, rfl⟩ | ⟨w, ws, i, -, -, hi⟩ := step_next_cases s t h
  · exact hs
  · exact exec_inv i _ t (hs.setInputs ws) hi

theorem reachable_inv (s : State) (h : Reachable s) : s.Inv := by
  induction h with
  | reset => exact State.reset_inv [] []
  | issued s ws _ ih => exact ih.setInputs ws
  | stepped s t _ hst ih => exact step_inv s t ih hst

/-! ## The status register over every instruction (10_state.md R32), and a changed control register -/

theorem exec_status (i : Instr) (s t : State) (h : exec i s = .next t) (hrender : i ≠ .render)
    (hread : i ≠ .statusRead) (hreset : i ≠ .reset) : t.status = s.status := by
  cases h using exec_next_cases with
  | render => exact absurd rfl hrender
  | statusRead => exact absurd rfl hread
  | reset => exact absurd rfl hreset
  | dataWrite | dataRead | ctrlFirst | ctrlAddr | ctrlReg | setAddr | regWrite => rfl

/-- Bits 6:0 of the status are never raised. -/
theorem exec_status_low (i : Instr) (s t : State) (h : exec i s = .next t) (k : Nat) (hk : k < 7)
    (hbit : t.status.getLsbD k = true) : s.status.getLsbD k = true := by
  cases h using exec_next_cases with
  | render =>
    rw [State.setFrameFlag_getLsbD] at hbit
    simpa [hk.ne] using hbit
  | statusRead =>
    rw [State.clearPending_status, State.clearFrameFlag_getLsbD] at hbit
    exact (Bool.and_eq_true_iff.1 hbit).1
  | reset => simp [State.reset] at hbit
  | dataWrite | dataRead | ctrlFirst | ctrlAddr | ctrlReg | setAddr | regWrite => exact hbit

/-- A register write can change the register it names alone. -/
theorem State.eq_of_writeReg_reg_ne (s : State) (r j : Fin 8) (v : Byte) (h : (s.writeReg r v).reg j ≠ s.reg j) :
    j = r := by
  by_contra hjr
  exact h (by rw [State.reg_writeReg, if_neg hjr])

/-! ## The registers and the frame are write-only to the host (10_state.md R22) -/

/-- The state with other control registers and another framebuffer. -/
def State.setDisplay (s : State) (rs : Vector Byte 8) (f : Option (Frame Config.pixelBits)) : State :=
  { s with regs := rs, fb := f }

section
variable (s : State) (rs : Vector Byte 8) (f : Option (Frame Config.pixelBits))
@[simp] theorem State.setDisplay_vram : (s.setDisplay rs f).vram = s.vram := rfl
@[simp] theorem State.setDisplay_outputs : (s.setDisplay rs f).outputs = s.outputs := rfl
@[simp] theorem State.setDisplay_first : (s.setDisplay rs f).first = s.first := rfl

/-- Other registers and another frame lead to the same state but for the registers and the frame. The frame is needed
beside the registers, as a `RENDER` draws what they say. -/
theorem exec_setDisplay (i : Instr) (t : State) (h : exec i s = .next t) :
    ∃ rs' f', exec i (s.setDisplay rs f) = .next (t.setDisplay rs' f') := by
  cases h using exec_next_cases with
  | dataWrite | dataRead | statusRead | setAddr => exact ⟨rs, f, rfl⟩
  | ctrlFirst b hp => exact ⟨rs, f, exec_ctrlWrite_first _ b hp⟩
  | ctrlAddr b a hp _ hcmd =>
    refine ⟨rs, f, ?_⟩
    rw [exec_ctrlWrite_second (s.setDisplay rs f) b hp, State.setDisplay_first, hcmd]
    rfl
  | ctrlReg b r hp _ _ hcmd =>
    refine ⟨rs.set r s.first, f, ?_⟩
    rw [exec_ctrlWrite_second (s.setDisplay rs f) b hp, State.setDisplay_first, hcmd]
    rfl
  | render => exact ⟨rs, some ((s.setDisplay rs f).frame params), rfl⟩
  | reset => exact ⟨State.reset.regs, none, rfl⟩
  | regWrite r v => exact ⟨rs.set r v, f, rfl⟩

end

theorem execAll_setDisplay (is : List Instr) (s : State) (rs : Vector Byte 8) (f : Option (Frame Config.pixelBits)) :
    ∃ t rs' f', execAll is s = .next t ∧ execAll is (s.setDisplay rs f) = .next (t.setDisplay rs' f') := by
  induction is generalizing s rs f with
  | nil => exact ⟨s, rs, f, rfl, rfl⟩
  | cons i is ih =>
    obtain ⟨u, hu⟩ := exec_completes i s
    obtain ⟨rs₁, f₁, hu₁⟩ := exec_setDisplay s rs f i u hu
    obtain ⟨t, rs₂, f₂, ht, ht₂⟩ := ih u rs₁ f₁
    exact ⟨t, rs₂, f₂, (execAll_cons i is s u hu).trans ht, (execAll_cons i is _ _ hu₁).trans ht₂⟩

/-! ## The reset registers through the decoders (10_state.md R42) -/

@[simp] theorem tableBase_zero (mask : Byte) (shift : Nat) : tableBase 0x00#8 mask shift = 0#14 := by
  simp [tableBase]

theorem State.reset_mode : State.reset.mode = .graphics1 := by
  simp [State.mode, State.m1, State.m2, State.m3, State.reset_reg]

theorem State.reset_nameBase (p : Params) : State.reset.nameBase p = some 0#14 := by
  simp [State.nameBase, State.reset_mode, State.nameBaseIn, State.reset_reg]

theorem State.reset_patternBase (p : Params) : State.reset.patternBase p = some 0#14 := by
  simp [State.patternBase, State.reset_mode, State.patternBaseIn, State.reset_reg]

theorem State.reset_colourBase (p : Params) : State.reset.colourBase p = 0#14 := by
  simp [State.colourBase, State.reset_reg]

/-! ## The obligations -/

/-- Settles O51: each update of an instruction keeps the invariants, where the latch goes with the pointer or with the
mark that it is valid. -/
theorem stepKeepsTheInvariants : Obligations.StepKeepsTheInvariants := step_inv

/-- Settles O14: a canonical memory's cells are determined by what it reads, and rising addresses leave them one
order. -/
theorem canonicalMemoriesThatReadAlikeAreEqual : Obligations.CanonicalMemoriesThatReadAlikeAreEqual :=
  Memory.eq_of_read_eq

/-- Settles O29, by the cases of an instruction: the others leave both fields alone. -/
theorem onlyControlPortAndResetTouchAPendingPair : Obligations.OnlyControlPortAndResetTouchAPendingPair := by
  intro i s t h hne
  cases h using exec_next_cases with
  | ctrlFirst b | ctrlAddr b | ctrlReg b => exact .inl ⟨b, rfl⟩
  | statusRead => exact .inr (.inl rfl)
  | reset => exact .inr (.inr rfl)
  | dataWrite | dataRead | render | setAddr | regWrite => simp at hne

/-- Settles O44, from what each instruction does to the flag and to the bits below it. -/
theorem frameFlagRisesAtRenderAndFallsAtStatusRead : Obligations.FrameFlagRisesAtRenderAndFallsAtStatusRead := by
  intro i s t h
  refine ⟨?_, ?_, ?_, exec_status_low i s t h⟩
  · rintro rfl
    cases h
    exact State.setFrameFlag_frameFlag _
  · rintro (rfl | rfl) <;> cases h
    · exact State.clearFrameFlag_frameFlag _
    · simp [State.frameFlag, State.reset]
  · intro hrender hread hreset
    rw [State.frameFlag, State.frameFlag, exec_status i s t h hrender hread hreset]

/-- Settles O46, by the cases of an instruction: the others leave VRAM alone. -/
theorem onlyDataWriteAndResetChangeVram : Obligations.OnlyDataWriteAndResetChangeVram := by
  intro i s t h hne
  cases h using exec_next_cases with
  | dataWrite b => exact .inl ⟨b, rfl⟩
  | reset => exact .inr rfl
  | dataRead | ctrlFirst | ctrlAddr | ctrlReg | statusRead | render | setAddr | regWrite => exact absurd rfl hne

/-- Settles O47, by the cases of an instruction: of a pair, the second byte names the register and the first is the
value. -/
theorem onlyRegWriteAndResetChangeControlRegisters : Obligations.OnlyRegWriteAndResetChangeControlRegisters := by
  intro i s t j h hne
  cases h using exec_next_cases with
  | regWrite r v =>
    obtain rfl := s.eq_of_writeReg_reg_ne r j v hne
    exact .inl ⟨v, rfl⟩
  | ctrlReg b r hp hc hr =>
    obtain rfl := s.clearPending.eq_of_writeReg_reg_ne r j s.first hne
    exact .inr (.inl ⟨b, rfl, hp, hc, hr, by rw [State.reg_writeReg, if_pos rfl]⟩)
  | reset => exact .inr (.inr rfl)
  | dataWrite | dataRead | ctrlFirst | ctrlAddr | statusRead | render | setAddr => exact absurd rfl hne

/-- Settles O48, by the cases of an instruction, once for each of the two fields. -/
theorem framebufferAndPointerHaveOnlyTheirWriters : Obligations.FramebufferAndPointerHaveOnlyTheirWriters := by
  intro i s t h
  refine ⟨fun hfb => ?_, fun hptr => ?_⟩
  · cases h using exec_next_cases with
    | render => exact .inl rfl
    | reset => exact .inr rfl
    | dataWrite | dataRead | ctrlFirst | ctrlAddr | ctrlReg | statusRead | setAddr | regWrite => exact absurd rfl hfb
  · cases h using exec_next_cases with
    | setAddr a => exact .inl ⟨a, rfl, rfl⟩
    | ctrlAddr b _ hp hc => exact .inr (.inl ⟨b, rfl, hp, hc⟩)
    | dataWrite b => exact .inr (.inr (.inl ⟨.inl ⟨b, rfl⟩, rfl⟩))
    | dataRead => exact .inr (.inr (.inl ⟨.inr rfl, rfl⟩))
    | reset => exact .inr (.inr (.inr rfl))
    | ctrlFirst | ctrlReg | statusRead | render | regWrite => exact absurd rfl hptr

/-- Settles O49, by induction on the instructions: the two runs differ in the registers and the frame alone. -/
theorem returnedBytesAndVramNeverDependOnControlRegisters :
    Obligations.ReturnedBytesAndVramNeverDependOnControlRegisters := by
  intro is s rs
  obtain ⟨t, rs', f', ht, hu⟩ := execAll_setDisplay is s rs s.fb
  exact ⟨t, t.setDisplay rs' f', ht, hu, t.setDisplay_outputs rs' f', t.setDisplay_vram rs' f'⟩

/-- Settles O53, by induction on the run. -/
theorem reachableStatesSatisfyTheInvariants : Obligations.ReachableStatesSatisfyTheInvariants := reachable_inv

/-- Settles O54: the step answers a next state, which keeps the invariants. -/
theorem stepIsSafeWhenTheWordNamesAStimulus : Obligations.StepIsSafeWhenTheWordNamesAStimulus := by
  intro s hs hw
  obtain ⟨t, ht⟩ := step_completes s hw
  rw [ht]
  exact step_inv s t hs ht

/-- Settles O42: the fields by their definition, the decoders from every register being 0x00. -/
theorem resetStateHasTheSpecsValues : Obligations.ResetStateHasTheSpecsValues :=
  ⟨fun _ => rfl, State.reset_reg, rfl, rfl, rfl, rfl, rfl, rfl, rfl, rfl, rfl, State.reset_mode, rfl, rfl,
    State.reset_nameBase params, State.reset_patternBase params, State.reset_colourBase params, rfl, rfl, rfl⟩

/-- Settles O52: the reset values with both host channels empty. -/
theorem resetSatisfiesTheInvariants : Obligations.ResetSatisfiesTheInvariants := State.reset_inv [] []

end Sys2Proof.Machine

namespace Sys2Proof.Machine

/-! ## VRAM addresses count modulo 16384 (20_memory.md R61), as a run of cells and as the pointer's sums -/

section
variable (s : State)

/-- Whole turns round VRAM do not change the cell (20_memory.md R63). -/
theorem State.vramRead_add_mul (a k : Nat) : s.vramRead (a + 16384 * k) = s.vramRead a := by
  rw [← s.vramRead_mod (a + 16384 * k), Nat.add_mul_mod_self_left, s.vramRead_mod]

/-- The cell a wrapped pointer names (10_state.md R34). -/
theorem State.vramRead_toNat_add_ofNat (a : Addr) (n : Nat) :
    s.vramRead (a + BitVec.ofNat 14 n).toNat = s.vramRead (a.toNat + n) := by
  rw [BitVec.toNat_add, BitVec.toNat_ofNat, Nat.add_mod_mod]
  exact s.vramRead_mod (a.toNat + n)

theorem State.vramRead_vramWrite_same (a : Nat) (v : Byte) : (s.vramWrite a v).vramRead a = v := by
  rw [s.vramRead_vramWrite, if_pos rfl]

/-- A write leaves every cell alone that is less than one turn ahead of it. -/
theorem State.vramRead_vramWrite_add (a k : Nat) (v : Byte) (hpos : 0 < k) (hlt : k < 16384) :
    (s.vramWrite a v).vramRead (a + k) = s.vramRead (a + k) := by
  have hne : (a + k) % 16384 ≠ a % 16384 := by omega
  rw [s.vramRead_vramWrite, if_neg hne]

/-- A write between an address set-up and a read does not reach the latch, so the read returns the byte fetched before
the write (41_port_state_machine.md R160; that the stale byte is returned is log entry 5). -/
theorem execAll_setAddr_dataWrite_dataRead (a : Addr) (b : Byte) :
    execAll [.setAddr a, .dataWrite b, .dataRead] s =
      .next (((((s.setPtr a).fetchLatch.vramWrite a.toNat b).advancePtr.invalidateLatch).reply
        (s.vramRead a.toNat)).advancePtr.fetchLatch) := by
  rw [execAll_cons _ _ _ _ (exec_setAddr s a), execAll_cons _ _ _ _ (exec_dataWrite _ b),
    execAll_cons _ _ _ _ (exec_dataRead _), State.latchByte_of_stale _ _ params_invalidLatchRead]
  rfl

end

/-- The mask and the shift alone bound a table's base, whatever the register holds (92_eei_decisions.md D14). -/
theorem tableBase_toNat_le (r mask : Byte) (shift : Nat) : (tableBase r mask shift).toNat ≤ mask.toNat * 2 ^ shift := by
  have hmask : (r &&& mask).toNat ≤ mask.toNat := Nat.and_le_right
  calc (tableBase r mask shift).toNat
      ≤ (r &&& mask).toNat <<< shift := Nat.mod_le _ _
    _ = (r &&& mask).toNat * 2 ^ shift := Nat.shiftLeft_eq _ _
    _ ≤ mask.toNat * 2 ^ shift := Nat.mul_le_mul_right _ hmask

/-! ## The obligations -/

/-- Settles O21: the latch holds the byte fetched at `A` through the write, and the write leaves `A + 1` and `A + 2`
alone. -/
theorem readAfterWriteReturnsTheStaleLatch : Obligations.ReadAfterWriteReturnsTheStaleLatch := by
  intro s a b
  have hptr : a + 1#14 + 1#14 = a + 2#14 := BitVec.add_assoc a 1#14 1#14
  have hfetched : ((s.setPtr a).fetchLatch.vramWrite a.toNat b).vramRead (a + 2#14).toNat = s.vramRead (a.toNat + 2) :=
    (State.vramRead_toNat_add_ofNat _ a 2).trans (State.vramRead_vramWrite_add _ _ 2 _ (by decide) (by decide))
  refine ⟨_, execAll_setAddr_dataWrite_dataRead s a b, rfl, State.vramRead_vramWrite_same _ _ _,
    State.vramRead_vramWrite_add _ _ 1 _ (by decide) (by decide), hptr, ?_⟩
  rw [← hfetched, ← hptr]
  rfl

/-- Settles O32: each table ends below 16384 even at the highest base its mask lets through. -/
theorem noTableRunsPastTheTopOfVram : Obligations.NoTableRunsPastTheTopOfVram := by
  intro s m
  have hname : (s.nameBaseIn params m).toNat ≤ 0x0F * 2 ^ 10 := by
    cases m <;> exact tableBase_toNat_le (s.reg 2) 0x0F#8 10
  have hpattern : (s.patternBaseIn params m).toNat ≤ 0x07 * 2 ^ 11 := by
    cases m <;> exact tableBase_toNat_le (s.reg 4) 0x07#8 11
  have hcolour : (s.colourBase params).toNat ≤ 0xFF * 2 ^ 6 := tableBase_toNat_le (s.reg 3) 0xFF#8 6
  omega

/-- Settles O13, from what a read sees of a write and from the addresses counting modulo 16384. -/
theorem vramWriteChangesOneCellModulo16384 : Obligations.VramWriteChangesOneCellModulo16384 := by
  intro s a b k v
  have hself : (s.vramWrite a v).vramRead a = v := s.vramRead_vramWrite_same a v
  have halias : (s.vramWrite a v).vramRead (a + 16384) = v := ((s.vramWrite a v).vramRead_add_mul a 1).trans hself
  exact ⟨s.vramRead_vramWrite a b v, hself, halias, s.vramRead_add_mul a k⟩

/-- Settles O43: of the old state only the host's channels are left, and a second `RESET` keeps them too. -/
theorem resetRestoresTheResetStateFromAnyState : Obligations.ResetRestoresTheResetStateFromAnyState :=
  fun s => ⟨_, exec_reset s, rfl, fun _ => rfl, State.reset_reg, rfl⟩

end Sys2Proof.Machine

namespace Sys2Proof

/-! ## The fields of a word of either format (30_encoding.md R90, R93, R95, R96) -/

section
variable (sel : BitVec 3) (d : Byte)

@[simp] theorem stimSel_append : stimSel (sel ++ d) = sel := BitVec.extractLsb'_append_eq_left

@[simp] theorem stimData_append : stimData (sel ++ d) = d := BitVec.extractLsb'_append_eq_right

theorem stimSel_append_stimData (w : StimWord) : stimSel w ++ stimData w = w := BitVec.extractLsb'_append_extractLsb'

/-- The mask of the table's `STIM` rows keeps the selector and clears the data byte (30_encoding.md R92, R109). -/
theorem append_and_0x700 : (sel ++ d) &&& 0x700#11 = sel ++ 0#8 := by
  have hmask : 0x700#11 = BitVec.allOnes 3 ++ 0#8 := by decide
  rw [hmask, BitVec.and_append, BitVec.and_allOnes, BitVec.and_zero]

end

/-- The words of `SET_ADDR A`: bit 14, `ignored`, is either (30_encoding.md R95, R97). -/
def setAddrWord (ignored : BitVec 1) (a : Addr) : CmdWord := 0#1 ++ ignored ++ a

/-- The words of `REG_WRITE r, v`: bits 14:11, `ignored`, are any (30_encoding.md R96, R97). -/
def regWriteWord (ignored : BitVec 4) (r : Fin 8) (v : Byte) : CmdWord :=
  1#1 ++ ignored ++ (BitVec.ofFin r : BitVec 3) ++ v

section
variable (x : BitVec 1) (a : Addr)

theorem cmdIsRegWrite_setAddrWord : cmdIsRegWrite (setAddrWord x a) = false := by
  rw [cmdIsRegWrite, setAddrWord, BitVec.getLsbD_append, BitVec.getLsbD_append]
  rfl

theorem cmdAddr_setAddrWord : cmdAddr (setAddrWord x a) = a := BitVec.extractLsb'_append_eq_right

theorem decodeCmd_setAddrWord : decodeCmd (setAddrWord x a) = .setAddr a := by
  simp [decodeCmd, cmdIsRegWrite_setAddrWord, cmdAddr_setAddrWord]

theorem setAddrWord_and_0x3FFF : setAddrWord x a &&& 0x3FFF#16 = setAddrWord 0#1 a := by
  have hmask : 0x3FFF#16 = 0#1 ++ 0#1 ++ BitVec.allOnes 14 := by decide
  rw [setAddrWord, hmask, BitVec.and_append, BitVec.and_append, BitVec.and_allOnes, BitVec.and_zero, BitVec.and_zero]
  rfl

theorem encode_setAddr : encode (.setAddr a) = .cmd (setAddrWord 0#1 a) := rfl

end

section
variable (x : BitVec 4) (r : Fin 8) (v : Byte)

theorem cmdIsRegWrite_regWriteWord : cmdIsRegWrite (regWriteWord x r v) = true := by
  rw [cmdIsRegWrite, regWriteWord, BitVec.getLsbD_append, BitVec.getLsbD_append, BitVec.getLsbD_append]
  rfl

theorem cmdReg_regWriteWord : cmdReg (regWriteWord x r v) = r := by
  have hreg : (regWriteWord x r v).extractLsb' 8 3 = BitVec.ofFin r := by
    rw [regWriteWord, BitVec.extractLsb'_append_eq_of_le (by decide)]
    exact BitVec.extractLsb'_append_eq_right
  rw [cmdReg, hreg]

theorem cmdValue_regWriteWord : cmdValue (regWriteWord x r v) = v := BitVec.extractLsb'_append_eq_right

theorem decodeCmd_regWriteWord : decodeCmd (regWriteWord x r v) = .regWrite r v := by
  simp [decodeCmd, cmdIsRegWrite_regWriteWord, cmdReg_regWriteWord, cmdValue_regWriteWord]

theorem regWriteWord_and_0x87FF : regWriteWord x r v &&& 0x87FF#16 = regWriteWord 0#4 r v := by
  have hmask : 0x87FF#16 = 1#1 ++ 0#4 ++ BitVec.allOnes 3 ++ BitVec.allOnes 8 := by decide
  rw [regWriteWord, hmask, BitVec.and_append, BitVec.and_append, BitVec.and_append, BitVec.and_allOnes,
    BitVec.and_allOnes, BitVec.and_zero]
  rfl

theorem encode_regWrite : encode (.regWrite r v) = .cmd (regWriteWord 0#4 r v) := rfl

end

/-- Bit 15 as a field of its own. -/
theorem extractLsb'_15_1 (w : CmdWord) : w.extractLsb' 15 1 = BitVec.ofBool (cmdIsRegWrite w) := by
  apply BitVec.eq_of_getLsbD_eq
  intro k hk
  obtain rfl : k = 0 := by omega
  simp [cmdIsRegWrite]

/-- A word with bit 15 clear is a word of `SET_ADDR` (30_encoding.md R94, R95). -/
theorem setAddrWord_cmdAddr (w : CmdWord) (h : cmdIsRegWrite w = false) :
    setAddrWord (w.extractLsb' 14 1) (cmdAddr w) = w := by
  have hop : w.extractLsb' 15 1 = 0#1 := by rw [extractLsb'_15_1, h]; rfl
  have hhigh : w.extractLsb' 15 1 ++ w.extractLsb' 14 1 = w.extractLsb' 14 2 :=
    BitVec.extractLsb'_append_extractLsb'_eq_extractLsb' rfl
  rw [setAddrWord, ← hop, hhigh]
  exact BitVec.extractLsb'_append_extractLsb'

/-- A word with bit 15 set is a word of `REG_WRITE` (30_encoding.md R94, R96). -/
theorem regWriteWord_cmdReg_cmdValue (w : CmdWord) (h : cmdIsRegWrite w = true) :
    regWriteWord (w.extractLsb' 11 4) (cmdReg w) (cmdValue w) = w := by
  have hop : w.extractLsb' 15 1 = 1#1 := by rw [extractLsb'_15_1, h]; rfl
  have hhigh : w.extractLsb' 15 1 ++ w.extractLsb' 11 4 = w.extractLsb' 11 5 :=
    BitVec.extractLsb'_append_extractLsb'_eq_extractLsb' rfl
  have hreg : w.extractLsb' 11 5 ++ w.extractLsb' 8 3 = w.extractLsb' 8 8 :=
    BitVec.extractLsb'_append_extractLsb'_eq_extractLsb' rfl
  rw [regWriteWord, ← hop, hhigh]
  exact (congrArg (· ++ cmdValue w) hreg).trans BitVec.extractLsb'_append_extractLsb'

/-! ## The words of each instruction: decoding, said once in both directions (30_encoding.md R109) -/

/-- `Spells w i`: the word `w` stands for the instruction `i`, whatever its ignored bits are (30_encoding.md R91 to
R97). `decode_eq_ok_iff` ties it to the decoder. -/
inductive Spells : InstrWord → Instr → Prop where
  | dataWrite (d : Byte) : Spells (.stim (0#3 ++ d)) (.dataWrite d)
  | dataRead (d : Byte) : Spells (.stim (1#3 ++ d)) .dataRead
  | ctrlWrite (d : Byte) : Spells (.stim (2#3 ++ d)) (.ctrlWrite d)
  | statusRead (d : Byte) : Spells (.stim (3#3 ++ d)) .statusRead
  | render (d : Byte) : Spells (.stim (4#3 ++ d)) .render
  | reset (d : Byte) : Spells (.stim (5#3 ++ d)) .reset
  | setAddr (x : BitVec 1) (a : Addr) : Spells (.cmd (setAddrWord x a)) (.setAddr a)
  | regWrite (x : BitVec 4) (r : Fin 8) (v : Byte) : Spells (.cmd (regWriteWord x r v)) (.regWrite r v)

theorem Spells.decode_eq {w : InstrWord} {i : Instr} (h : Spells w i) : decode w = .ok i := by
  cases h with
  | setAddr x a => exact congrArg Except.ok (decodeCmd_setAddrWord x a)
  | regWrite x r v => exact congrArg Except.ok (decodeCmd_regWriteWord x r v)
  | dataWrite d | dataRead d | ctrlWrite d | statusRead d | render d | reset d => simp [decode, decodeStim]

theorem Spells.wellFormed {w : InstrWord} {i : Instr} (h : Spells w i) : InstrWord.wellFormed w = true := by
  cases h with
  | setAddr | regWrite => rfl
  | dataWrite d | dataRead d | ctrlWrite d | statusRead d | render d | reset d =>
    exact decide_eq_true (by rw [BitVec.extractLsb'_append_eq_left]; decide)

/-- Each selector below 6 names a stimulus (30_encoding.md R91). -/
theorem exists_spells_append (sel : BitVec 3) (d : Byte) (h : sel.toNat < 6) : ∃ i, Spells (.stim (sel ++ d)) i := by
  have hsel : sel = 0#3 ∨ sel = 1#3 ∨ sel = 2#3 ∨ sel = 3#3 ∨ sel = 4#3 ∨ sel = 5#3 := by
    revert sel; decide
  obtain rfl | rfl | rfl | rfl | rfl | rfl := hsel
  · exact ⟨_, .dataWrite d⟩
  · exact ⟨_, .dataRead d⟩
  · exact ⟨_, .ctrlWrite d⟩
  · exact ⟨_, .statusRead d⟩
  · exact ⟨_, .render d⟩
  · exact ⟨_, .reset d⟩

/-- The other two are rejected by name (30_encoding.md R98). -/
theorem decodeStim_append_rejected (sel : BitVec 3) (d : Byte) (h : 6 ≤ sel.toNat) :
    decodeStim (sel ++ d) = .error (.namesNoStimulus sel) := by
  have hsel : sel = 6#3 ∨ sel = 7#3 := by
    revert sel; decide
  obtain rfl | rfl := hsel <;> simp [decodeStim]

/-- Bit 15 alone decides which of the two a `CMD` word is (30_encoding.md R94). -/
theorem exists_spells_cmd (w : CmdWord) : ∃ i, Spells (.cmd w) i := by
  match h : cmdIsRegWrite w with
  | false =>
    rw [← setAddrWord_cmdAddr w h]
    exact ⟨_, .setAddr _ _⟩
  | true =>
    rw [← regWriteWord_cmdReg_cmdValue w h]
    exact ⟨_, .regWrite _ _ _⟩

/-- What the decoder does with any word: it reads the instruction the word stands for, or rejects the word by its
selector. -/
theorem spells_or_rejected (w : InstrWord) :
    (∃ i, Spells w i) ∨ ∃ sel : BitVec 3, 6 ≤ sel.toNat ∧ decode w = .error (.namesNoStimulus sel) := by
  cases w with
  | cmd w => exact .inl (exists_spells_cmd w)
  | stim w =>
    rw [← stimSel_append_stimData w]
    obtain h | h := Nat.lt_or_ge (stimSel w).toNat 6
    · exact .inl (exists_spells_append _ _ h)
    · exact .inr ⟨stimSel w, h, decodeStim_append_rejected _ _ h⟩

theorem decode_eq_ok_iff (w : InstrWord) (i : Instr) : decode w = .ok i ↔ Spells w i := by
  refine ⟨fun h => ?_, Spells.decode_eq⟩
  obtain ⟨j, hj⟩ | ⟨sel, -, hsel⟩ := spells_or_rejected w
  · cases hj.decode_eq.symm.trans h
    exact hj
  · cases hsel.symm.trans h

theorem encode_spells (i : Instr) : Spells (encode i) i := by
  cases i with
  | dataWrite b => exact .dataWrite b
  | dataRead => exact .dataRead 0#8
  | ctrlWrite b => exact .ctrlWrite b
  | statusRead => exact .statusRead 0#8
  | render => exact .render 0#8
  | reset => exact .reset 0#8
  | setAddr a => exact .setAddr 0#1 a
  | regWrite r v => exact .regWrite 0#4 r v

theorem Spells.encode_eq_canonicalWord {w : InstrWord} {i : Instr} (h : Spells w i) : encode i = canonicalWord w := by
  cases h with
  | setAddr x a => simp [canonicalWord, cmdIsRegWrite_setAddrWord, setAddrWord_and_0x3FFF, encode_setAddr]
  | regWrite x r v => simp [canonicalWord, cmdIsRegWrite_regWriteWord, regWriteWord_and_0x87FF, encode_regWrite]
  | dataWrite d | ctrlWrite d => simp [canonicalWord, encode, stimWord]
  | dataRead d | statusRead d | render d | reset d => simp [canonicalWord, encode, stimWord, append_and_0x700]

/-! ## The opcode table: every row of a format has one mask, so its pattern names it (30_encoding.md R109) -/

/-- The bits that select the row: the selector of a `STIM` word, bit 15 of a `CMD` word (30_encoding.md R91, R94). -/
def selectingBits : InstrWord → InstrWord
  | .stim w => .stim (w &&& 0x700#11)
  | .cmd w => .cmd (w &&& 0x8000#16)

theorem inRow_opcodeRow_iff (w : InstrWord) (i : Instr) :
    inRow w (opcodeRow i) = true ↔ selectingBits w = (opcodeRow i).pattern := by
  cases w with
  | stim w => cases i <;> simp [inRow, opcodeRow, selectingBits]
  | cmd w => cases i <;> simp [inRow, opcodeRow, selectingBits]

theorem Spells.selectingBits_eq {w : InstrWord} {i : Instr} (h : Spells w i) :
    selectingBits w = (opcodeRow i).pattern := by
  cases h with
  | setAddr x a =>
    have hop : ¬ (setAddrWord x a).getLsbD 15 = true := Bool.not_eq_true _ ▸ cmdIsRegWrite_setAddrWord x a
    exact congrArg InstrWord.cmd ((Laws.and_bit15 _).trans (if_neg hop))
  | regWrite x r v =>
    exact congrArg InstrWord.cmd ((Laws.and_bit15 _).trans (if_pos (cmdIsRegWrite_regWriteWord x r v)))
  | dataWrite d | dataRead d | ctrlWrite d | statusRead d | render d | reset d =>
    exact congrArg InstrWord.stim (append_and_0x700 _ d)

/-- A row's pattern is itself a word of the row, so it decodes to an instruction of the row. -/
theorem decode_pattern (i : Instr) : ∃ j, decode (opcodeRow i).pattern = .ok j ∧ opcodeRow j = opcodeRow i := by
  cases i <;> exact ⟨_, rfl, rfl⟩

theorem opcodeRow_eq_of_pattern_eq (i j : Instr) (h : (opcodeRow i).pattern = (opcodeRow j).pattern) :
    opcodeRow i = opcodeRow j := by
  obtain ⟨k, hk, hki⟩ := decode_pattern i
  obtain ⟨l, hl, hlj⟩ := decode_pattern j
  rw [h] at hk
  cases hk.symm.trans hl
  exact hki.symm.trans hlj

/-! ## The command of a pair (30_encoding.md R93 to R97) -/

/-- The address is bits 5:0 of the second byte above the first byte (30_encoding.md R95). -/
theorem cmdAddr_cmdWord (first second : Byte) : cmdAddr (cmdWord first second) = second.extractLsb' 0 6 ++ first := by
  have hsplit : (second ++ first).extractLsb' 8 6 ++ (second ++ first).extractLsb' 0 8 =
      (second ++ first).extractLsb' 0 14 := BitVec.extractLsb'_append_extractLsb'_eq_extractLsb' rfl
  rw [BitVec.extractLsb'_append_eq_of_le (by decide), BitVec.extractLsb'_append_eq_right] at hsplit
  exact hsplit.symm

/-- The register as the field it is read from (30_encoding.md R96). -/
theorem cmdReg_cmdWord_eq (first second : Byte) :
    cmdReg (cmdWord first second) = (second.extractLsb' 0 3).toFin := by
  refine Fin.ext ((Machine.cmdReg_cmdWord first second).trans ?_)
  simp

/-! ## The obligations of the encoding -/

/-- Settles O1: the encoder writes one of the instruction's words, and each of them decodes to it. -/
theorem decodingAnEncodedInstructionGivesItBack : Obligations.DecodingAnEncodedInstructionGivesItBack :=
  fun i _ => ⟨(encode_spells i).wellFormed, (encode_spells i).decode_eq⟩

/-- Settles O2, by the words of each instruction: their ignored bits are what the masks clear. -/
theorem encodingADecodedWordDropsOnlyIgnoredBits : Obligations.EncodingADecodedWordDropsOnlyIgnoredBits :=
  fun w i h => ((decode_eq_ok_iff w i).1 h).encode_eq_canonicalWord

/-- Settles O5: a word stands for an instruction, and is well formed, or is rejected by its selector. -/
theorem onlySelectorsSixAndSevenAreRejected : Obligations.OnlySelectorsSixAndSevenAreRejected := by
  intro w
  refine ⟨⟨?_, fun h => ?_⟩, fun sel h => ?_⟩
  · rintro ⟨i, h⟩
    exact ((decode_eq_ok_iff w i).1 h).wellFormed
  · cases w with
    | stim w => exact Machine.decodeStim_of_wellFormed w h
    | cmd w => exact ⟨_, rfl⟩
  · obtain ⟨i, hi⟩ | ⟨sel', hle, hsel⟩ := spells_or_rejected w
    · cases hi.decode_eq.symm.trans h
    · cases hsel.symm.trans h
      have hlt : sel.toNat < 8 := sel.isLt
      omega

/-- Settles O6: a word's selecting bits are the pattern of its row, and no two rows share a pattern. -/
theorem decodingFollowsTheOpcodeTable : Obligations.DecodingFollowsTheOpcodeTable := by
  refine ⟨fun w i h => ?_, fun w i j hi hj => ?_⟩
  · exact (inRow_opcodeRow_iff w i).2 ((decode_eq_ok_iff w i).1 h).selectingBits_eq
  · have hpattern : (opcodeRow i).pattern = (opcodeRow j).pattern :=
      ((inRow_opcodeRow_iff w i).1 hi).symm.trans ((inRow_opcodeRow_iff w j).1 hj)
    rw [opcodeRow_eq_of_pattern_eq i j hpattern]

/-- Settles O3, a selector at a time. -/
theorem selectorNamesTheStimulus : Obligations.SelectorNamesTheStimulus := fun d =>
  ⟨(Spells.dataWrite d).decode_eq, (Spells.dataRead d).decode_eq, (Spells.ctrlWrite d).decode_eq,
    (Spells.statusRead d).decode_eq, (Spells.render d).decode_eq, (Spells.reset d).decode_eq,
    decodeStim_append_rejected 6#3 d (by decide), decodeStim_append_rejected 7#3 d (by decide)⟩

/-- Settles O4: bit 7 of the second byte is bit 15 of the pair's word, and the fields are its bit ranges. -/
theorem pairBytesFormTheCommand : Obligations.PairBytesFormTheCommand := by
  intro first second
  have hop : cmdIsRegWrite (cmdWord first second) = second.getLsbD 7 := Machine.cmdIsRegWrite_cmdWord first second
  refine ⟨fun h => ?_, fun h => ?_⟩ <;> rw [h] at hop <;> change decodeCmd (cmdWord first second) = _
  · simp [decodeCmd, hop, cmdAddr_cmdWord]
  · simp [decodeCmd, hop, cmdReg_cmdWord_eq, Machine.cmdValue_cmdWord]

/-- Settles O7, by running the decoder on the eight words. -/
theorem writtenOutWordsDecode : Obligations.WrittenOutWordsDecode := by
  unfold Obligations.WrittenOutWordsDecode
  decide

end Sys2Proof

namespace Sys2Proof.Machine

/-! ## Instructions one after another, and the two control writes of a pair -/

section
variable (s : State)

theorem execAll_singleton (i : Instr) : execAll [i] s = exec i s := by
  obtain ⟨t, ht⟩ := exec_completes i s
  rw [execAll_cons i [] s t ht, ht]
  rfl

/-- From a state with no byte pending two control writes perform the command of the pair; `FIRST` keeps the first of
them (41_port_state_machine.md R151). -/
theorem execAll_ctrlWrite_ctrlWrite (first second : Byte) (h : s.pending = false) :
    execAll [.ctrlWrite first, .ctrlWrite second] s = exec (decodeCmd (second ++ first)) { s with first := first } := by
  have hclear : (s.holdFirst first).clearPending = { s with first := first } := by
    rw [State.holdFirst, State.clearPending, ← h]
  rw [execAll_cons _ _ _ _ (exec_ctrlWrite_first s first h), execAll_singleton,
    exec_ctrlWrite_second _ second rfl, hclear]
  rfl

/-- Both address set-ups: the upper two bits of the second byte are `0b00` or `0b01` (30_encoding.md R102, R103). -/
theorem execAll_ctrlWrite_addr (a : Addr) (hi : BitVec 2) (hhi : hi.getLsbD 1 = false) (h : s.pending = false) :
    execAll [.ctrlWrite (a.extractLsb' 0 8), .ctrlWrite (hi ++ a.extractLsb' 8 6)] s =
      exec (.setAddr a) { s with first := a.extractLsb' 0 8 } := by
  have hop : (hi ++ a.extractLsb' 8 6 : Byte).getLsbD 7 = false := by
    rw [BitVec.getLsbD_append]; exact hhi
  have haddr : (hi ++ a.extractLsb' 8 6 : Byte).extractLsb' 0 6 ++ a.extractLsb' 0 8 = a := by
    rw [BitVec.extractLsb'_append_eq_right]
    exact BitVec.extractLsb'_append_extractLsb'
  rw [execAll_ctrlWrite_ctrlWrite s _ _ h, (pairBytesFormTheCommand _ _).1 hop, haddr]

/-- The second byte of `SETREG r` selects `REG_WRITE` and names register `r` (30_encoding.md R104). -/
theorem decodeCmd_setReg (r : Fin 8) (v : Byte) :
    decodeCmd ((0x80#8 ||| BitVec.ofNat 8 r.val) ++ v) = .regWrite r v := by
  have hop : (0x80#8 ||| BitVec.ofNat 8 r.val).getLsbD 7 = true := by revert r; decide
  have hreg : ((0x80#8 ||| BitVec.ofNat 8 r.val).extractLsb' 0 3).toFin = r := by revert r; decide
  exact ((pairBytesFormTheCommand v _).2 hop).trans (by rw [hreg])

end

/-! ## The obligations of pairs and placed words -/

/-- Settles O9, from what the step and a second control byte do. -/
theorem stepRunsTheCommandOfACompletedPair : Obligations.StepRunsTheCommandOfACompletedPair := by
  intro s w ws b hin hw hp
  rw [step_stimulus s w ws _ hin hw, exec_ctrlWrite_second (s.setInputs ws) b hp]
  rfl

/-- Settles O10: a placed `STIM` word is the oldest stimulus, a placed `CMD` word the second byte of a pair. -/
theorem placedTableWordRunsNext : Obligations.PlacedTableWordRunsNext := by
  intro s nbits w
  refine ⟨fun c hc i hi => ?_, fun c hc => ?_⟩
  · have hplaced : s.withFetchWord nbits w = s.setInputs (c :: s.inputs) := by
      simp [State.withFetchWord, hc, placeWord]
    rw [hplaced, step_stimulus _ c s.inputs i rfl hi]
    rfl
  · have hplaced : s.withFetchWord nbits w =
        (s.holdFirst (c.extractLsb' 0 8)).setInputs (stimWord 2#3 (c.extractLsb' 8 8) :: s.inputs) := by
      simp [State.withFetchWord, hc, placeWord]
    have hbytes : c.extractLsb' 8 8 ++ c.extractLsb' 0 8 = c := BitVec.extractLsb'_append_extractLsb'
    rw [hplaced, stepRunsTheCommandOfACompletedPair _ _ s.inputs _ rfl (Spells.ctrlWrite _).decode_eq rfl]
    exact congrArg (fun c' => exec (decodeCmd c') _) hbytes

/-- Settles O28: the two address set-ups and the register write are pairs, the acknowledge a status read. -/
theorem pseudoOperationsPerformTheirCommands : Obligations.PseudoOperationsPerformTheirCommands := by
  refine fun s => ⟨fun h a => ?_, fun h r v => ?_, ?_⟩
  · have hset := execAll_ctrlWrite_addr s a 0b00#2 rfl h
    exact ⟨hset, (execAll_ctrlWrite_addr s a 0b01#2 rfl h).trans hset.symm⟩
  · exact (execAll_ctrlWrite_ctrlWrite s v _ h).trans (by rw [decodeCmd_setReg])
  · exact ⟨_, (execAll_singleton s .statusRead).trans (exec_statusRead s), rfl, State.clearFrameFlag_frameFlag _⟩

/-- Settles O26: the status read leaves no byte pending, so the control byte after it is a first byte. -/
theorem statusReadMakesTheNextControlByteAFirstByte : Obligations.StatusReadMakesTheNextControlByteAFirstByte := by
  intro s c
  have hrun : execAll [.statusRead, .ctrlWrite c] s =
      .next ((s.reply s.status).clearFrameFlag.clearPending.holdFirst c) := by
    rw [execAll_cons _ _ _ _ (exec_statusRead s), execAll_singleton, exec_ctrlWrite_first _ c rfl]
  exact ⟨_, hrun, rfl, rfl, rfl, rfl, rfl, rfl⟩

end Sys2Proof.Machine

namespace Sys2Proof.Machine

/-! ## The register file's decoders (40_register_file.md R123 to R130) -/

/-- What is drawn of a mode when nothing is blanked: a mode the core does not draw is blank (40_register_file.md R130). -/
def VideoMode.drawn : VideoMode → FrameMode
  | .graphics1 => .graphics1
  | .text => .text
  | .unsupported => .blank

section
variable (p : Params) (s : State)

/-- Only `M1` is looked at when neither `M2` nor `M3` is set (40_register_file.md R123). -/
theorem State.mode_eq :
    s.mode = if s.m2 = true ∨ s.m3 = true then .unsupported else if s.m1 = true then .text else .graphics1 := by
  unfold State.mode
  cases s.m1 <;> cases s.m2 <;> cases s.m3 <;> rfl

theorem State.effectiveMode_of_blanked (hp : p.blankHonoured = true) (h : s.displayEnabled = false) :
    s.effectiveMode p = .blank := by
  simp [State.effectiveMode, hp, h]

theorem State.effectiveMode_of_not_blanked (h : s.displayEnabled = true ∨ p.blankHonoured = false) :
    s.effectiveMode p = s.mode.drawn := by
  have hshown : (!s.displayEnabled && p.blankHonoured) = false := by
    obtain h | h := h <;> simp [h]
  rw [State.effectiveMode, if_neg (Bool.eq_false_iff.1 hshown)]
  cases s.mode <;> rfl

end

/-- A mask of the `k` low bits takes the register modulo `2 ^ k`, and a base that fits in 14 bits is not cut off
(92_eei_decisions.md D14). -/
theorem tableBase_toNat (r mask : Byte) (shift k : Nat) (hmask : mask.toNat = 2 ^ k - 1) (hfit : k + shift ≤ 14) :
    (tableBase r mask shift).toNat = r.toNat % 2 ^ k * 2 ^ shift := by
  have hfield : (r &&& mask).toNat = r.toNat % 2 ^ k := by
    rw [BitVec.toNat_and, hmask, Nat.and_two_pow_sub_one_eq_mod]
  have hlt : r.toNat % 2 ^ k * 2 ^ shift < 2 ^ 14 := calc
    r.toNat % 2 ^ k * 2 ^ shift < 2 ^ k * 2 ^ shift :=
      Nat.mul_lt_mul_of_pos_right (Nat.mod_lt _ (Nat.two_pow_pos k)) (Nat.two_pow_pos shift)
    _ = 2 ^ (k + shift) := (Nat.pow_add 2 k shift).symm
    _ ≤ 2 ^ 14 := Nat.pow_le_pow_right (by decide) hfit
  rw [tableBase, BitVec.toNat_ofNat, Nat.shiftLeft_eq, hfield, Nat.mod_eq_of_lt hlt]

/-- This machine's colour table: the whole of register 3, in steps of 0x40 (40_register_file.md R126). -/
theorem State.colourBase_params_toNat (s : State) : (s.colourBase params).toNat = (s.reg 3).toNat * 0x40 := by
  have hbase : (s.colourBase params).toNat = (s.reg 3).toNat % 2 ^ 8 * 2 ^ 6 :=
    tableBase_toNat (s.reg 3) 0xFF#8 6 8 rfl (by decide)
  rwa [Nat.mod_eq_of_lt (s.reg 3).isLt] at hbase

/-! ## What a frame reads of the state: the effective mode, the registers from 2 on, and VRAM (42_mode_renderer.md R181) -/

section
variable (p : Params) (s t : State) (hreg : ∀ j, 2 ≤ j → s.reg j = t.reg j) (hvram : ∀ a, s.vramRead a = t.vramRead a)
include hreg hvram

theorem State.patternLine_congr (m : TableMode) (name : Byte) (y : Nat) :
    s.patternLine p m name y = t.patternLine p m name y := by
  simp [State.patternLine, State.patternBaseIn, hvram, hreg 4]

theorem State.graphics1Code_congr (x y : Nat) : s.graphics1Code p x y = t.graphics1Code p x y := by
  have hname : s.graphics1Name p x y = t.graphics1Name p x y := by
    simp [State.graphics1Name, State.nameBaseIn, hvram, hreg 2]
  have hpair (name : Byte) : s.colourPair p name = t.colourPair p name := by
    simp [State.colourPair, State.colourBase, hvram, hreg 3]
  simp [State.graphics1Code, hname, hpair, s.patternLine_congr p t hreg hvram]

theorem State.textCode_congr (x y : Nat) : s.textCode p x y = t.textCode p x y := by
  have hname : s.textName p x y = t.textName p x y := by
    simp [State.textName, State.nameBaseIn, hvram, hreg 2]
  simp [State.textCode, State.textFg, State.backdrop, hname, hreg 7, s.patternLine_congr p t hreg hvram]

theorem State.pixelCode_congr (m : FrameMode) (x y : Nat) : s.pixelCode p m x y = t.pixelCode p m x y := by
  cases m with
  | graphics1 => exact s.graphics1Code_congr p t hreg hvram x y
  | text => exact s.textCode_congr p t hreg hvram x y
  | blank => simp [State.pixelCode, State.backdrop, hreg 7]

theorem State.frame_congr (hmode : s.effectiveMode p = t.effectiveMode p) : s.frame p = t.frame p := by
  simp only [State.frame, hmode, s.pixelCode_congr p t hreg hvram]

end

/-- Setting the display bit of register 1 leaves the mode bits alone (10_state.md R24, R25). -/
theorem State.mode_writeReg_display (s : State) : (s.writeReg 1 (s.reg 1 ||| 0x40#8)).mode = s.mode := by
  simp [State.mode, State.m1, State.m2, State.m3, State.reg_writeReg]

/-! ## The obligations of the register file -/

/-- Settles O24: a read sees the write at the register it names alone. -/
theorem regWriteChangesOneRegister : Obligations.RegWriteChangesOneRegister := by
  intro s r v
  refine ⟨_, exec_regWrite s r v, ?_, fun j hj => ?_, rfl⟩
  · rw [State.reg_writeReg, if_pos rfl]
  · rw [State.reg_writeReg, if_neg hj]

/-- Settles O25: the status is handed over before its bit 7, and no other, is cleared. -/
theorem statusReadReturnsThenClearsTheFrameFlag : Obligations.StatusReadReturnsThenClearsTheFrameFlag := by
  intro s
  refine ⟨_, exec_statusRead s, rfl, State.clearFrameFlag_frameFlag _, fun k hk => ?_, rfl, rfl⟩
  rw [State.clearPending_status, State.clearFrameFlag_getLsbD, State.reply_status, bne_iff_ne.2 hk, Bool.and_true]

/-- Settles O30: the mode by its three bits, and the effective mode with and without blanking. -/
theorem modeBitsSelectTheMode : Obligations.ModeBitsSelectTheMode := by
  intro p s
  refine ⟨s.mode_eq, fun h hp => s.effectiveMode_of_blanked p hp h, fun h => ?_⟩
  have hdrawn : s.effectiveMode p = s.mode.drawn := s.effectiveMode_of_not_blanked p h
  refine ⟨fun hm => ?_, fun hm => ?_, fun hm => ?_⟩ <;> rw [hdrawn, hm] <;> rfl

/-- Settles O31: each mask is one of low bits, the same in both modes, and each base fits in 14 bits. -/
theorem tableBasesFollowTheirRegisters : Obligations.TableBasesFollowTheirRegisters := by
  intro s m
  refine ⟨?_, ?_, s.colourBase_params_toNat⟩
  · cases m <;> exact tableBase_toNat (s.reg 2) 0x0F#8 10 4 rfl (by decide)
  · cases m <;> exact tableBase_toNat (s.reg 4) 0x07#8 11 3 rfl (by decide)

/-- Settles O33: the two control writes are `SETREG 3`, and the colour base is read from the register written. -/
theorem registerThreeWriteMovesTheColourTable : Obligations.RegisterThreeWriteMovesTheColourTable := by
  intro s v h
  obtain ⟨-, hsetReg, -⟩ := pseudoOperationsPerformTheirCommands s
  have hrun : execAll [.ctrlWrite v, .ctrlWrite 0x83#8] s = .next (State.writeReg { s with first := v } 3 v) :=
    hsetReg h 3 v
  have hreg : (State.writeReg { s with first := v } 3 v).reg 3 = v := by rw [State.reg_writeReg, if_pos rfl]
  exact ⟨_, hrun, hreg, by rw [State.colourBase_params_toNat, hreg], h⟩

/-- Settles O40: honoured, the bit makes the effective mode blank; ignored, it is read by nothing a frame is drawn
from. -/
theorem blankingFollowsItsParameter : Obligations.BlankingFollowsItsParameter := by
  refine ⟨fun p s hp h => s.frame_blank p (s.effectiveMode_of_blanked p hp h), ?_, fun s => ⟨_, exec_render s, rfl⟩⟩
  rintro p s v hp rfl
  have hmode : s.effectiveMode p = (s.writeReg 1 (s.reg 1 ||| 0x40#8)).effectiveMode p := by
    rw [State.effectiveMode_of_not_blanked p _ (.inr hp), State.effectiveMode_of_not_blanked p _ (.inr hp),
      State.mode_writeReg_display]
  refine s.frame_congr p _ (fun j hj => ?_) (fun a => rfl) hmode
  have hne : j ≠ 1 := by rintro rfl; exact absurd hj (by decide)
  rw [State.reg_writeReg, if_neg hne]

end Sys2Proof.Machine

namespace Sys2Proof.Machine

/-! ## The pointer, and what one instruction does at it (10_state.md R34, 41_port_state_machine.md R151, R155) -/

theorem toNat_add_ofNat (a : Addr) (n : Nat) : (a + BitVec.ofNat 14 n).toNat = (a.toNat + n) % 16384 := by
  rw [BitVec.toNat_add, BitVec.toNat_ofNat, Nat.add_mod_mod]

/-- The state after a `DATA_WRITE` of `b` (41_port_state_machine.md R155). -/
def State.storeNext (s : State) (b : Byte) : State := (s.vramWrite s.ptr.toNat b).advancePtr.invalidateLatch

theorem exec_dataWrite_eq_storeNext (s : State) (b : Byte) : exec (.dataWrite b) s = .next (s.storeNext b) :=
  exec_dataWrite s b

theorem State.storeNext_vramRead (s : State) (b : Byte) (a : Nat) :
    (s.storeNext b).vramRead a = if a % 16384 = s.ptr.toNat then b else s.vramRead a := by
  have hptr : s.ptr.toNat % 16384 = s.ptr.toNat := Nat.mod_eq_of_lt s.ptr.isLt
  rw [← hptr]
  exact s.vramRead_vramWrite s.ptr.toNat a b

/-- The command of a pair leaves the mark of a pending byte alone (41_port_state_machine.md R152, R153). -/
theorem exec_decodeCmd_pending (w : CmdWord) (s t : State) (h : exec (decodeCmd w) s = .next t) :
    t.pending = s.pending := by
  unfold decodeCmd at h
  split at h <;> cases h <;> rfl

/-- The address of a pair as a number (30_encoding.md R95). -/
theorem toNat_pairAddr (first second : Byte) :
    (second.extractLsb' 0 6 ++ first : Addr).toNat = second.toNat % 64 * 256 + first.toNat := by
  have happend := BitVec.toNat_append (second.extractLsb' 0 6) first
  rw [← Nat.shiftLeft_add_eq_or_of_lt first.isLt, BitVec.extractLsb'_toNat, Nat.shiftRight_zero, Nat.shiftLeft_eq]
    at happend
  exact happend

theorem execAll_append (is js : List Instr) (s t : State) (h : execAll is s = .next t) :
    execAll (is ++ js) s = execAll js t := by
  induction is generalizing s with
  | nil => cases h; rfl
  | cons i is ih =>
    obtain ⟨u, hu⟩ := exec_completes i s
    rw [execAll_cons i is s u hu] at h
    exact (execAll_cons i (is ++ js) s u hu).trans (ih u h)

/-! ## A run of reads (41_port_state_machine.md R157) -/

section
variable (s : State) (a : Addr) (n : Nat)

/-- The bytes of the `n` cells from the pointer on are handed over and the pointer is moved past them; the latch is left
to a fetch that follows. -/
def State.readRun : State :=
  { s with
    ptr := s.ptr + BitVec.ofNat 14 n
    outputs := s.outputs ++ (List.range n).map fun k => s.vramRead (s.ptr.toNat + k) }

theorem State.readRun_zero : s.readRun 0 = s := by
  simp [State.readRun]

/-- The read after `n` others returns the byte fetched at the pointer they left. -/
theorem exec_dataRead_readRun :
    exec .dataRead (s.readRun n).fetchLatch = .next (s.readRun (n + 1)).fetchLatch := by
  have hlatch : (s.readRun n).fetchLatch.latchByte params = s.vramRead (s.ptr.toNat + n) :=
    (State.latchByte_of_valid _ params rfl).trans (s.vramRead_toNat_add_ofNat s.ptr n)
  have hrun : ((s.readRun n).reply (s.vramRead (s.ptr.toNat + n))).advancePtr = s.readRun (n + 1) := by
    simp [State.readRun, State.reply, State.advancePtr, State.setPtr, List.range_succ, BitVec.ofNat_add,
      BitVec.add_assoc]
  rw [exec_dataRead, hlatch, ← hrun]
  rfl

theorem execAll_replicate_dataRead :
    execAll (List.replicate n .dataRead) s.fetchLatch = .next (s.readRun n).fetchLatch := by
  induction n with
  | zero => rw [s.readRun_zero]; rfl
  | succ n ih =>
    rw [List.replicate_succ', execAll_append _ _ _ _ ih, execAll_singleton]
    exact exec_dataRead_readRun s n

theorem execAll_setAddr_replicate_dataRead :
    execAll (.setAddr a :: List.replicate n .dataRead) s = .next ((s.setPtr a).readRun n).fetchLatch :=
  (execAll_cons _ _ _ _ (exec_setAddr s a)).trans (execAll_replicate_dataRead (s.setPtr a) n)

end

/-! ## A run of writes (41_port_state_machine.md R158) -/

/-- The state after `DATA_WRITE`s of the bytes `bs`, the first of them first. -/
def State.writeRun (s : State) (bs : List Byte) : State := bs.foldl State.storeNext s

section
variable (s : State) (bs : List Byte)

theorem execAll_map_dataWrite : execAll (bs.map Instr.dataWrite) s = .next (s.writeRun bs) := by
  induction bs generalizing s with
  | nil => rfl
  | cons b bs ih => exact (execAll_cons _ _ _ _ (exec_dataWrite_eq_storeNext s b)).trans (ih (s.storeNext b))

theorem State.writeRun_concat (b : Byte) : s.writeRun (bs ++ [b]) = (s.writeRun bs).storeNext b :=
  List.foldl_concat ..

theorem State.writeRun_ptr : (s.writeRun bs).ptr = s.ptr + BitVec.ofNat 14 bs.length := by
  induction bs using List.reverseRecOn with
  | nil => exact (BitVec.add_zero s.ptr).symm
  | append_singleton bs b ih =>
    rw [s.writeRun_concat, List.length_append, List.length_singleton, BitVec.ofNat_add, ← BitVec.add_assoc, ← ih]
    rfl

/-- The last write of a run lands as many cells on as there are writes before it. -/
theorem State.writeRun_concat_vramRead (b : Byte) (a : Nat) :
    (s.writeRun (bs ++ [b])).vramRead a =
      if a % 16384 = (s.ptr.toNat + bs.length) % 16384 then b else (s.writeRun bs).vramRead a := by
  rw [s.writeRun_concat, State.storeNext_vramRead, s.writeRun_ptr, toNat_add_ofNat]

/-- A byte of the last lap stays in its cell: the writes after it are less than one turn ahead. -/
theorem State.writeRun_vramRead_lastLap (k : Nat) (hk : k < bs.length) (hlap : bs.length ≤ k + 16384) :
    (s.writeRun bs).vramRead (s.ptr.toNat + k) = bs[k] := by
  induction bs using List.reverseRecOn with
  | nil => cases hk
  | append_singleton bs b ih =>
    rw [List.length_append, List.length_singleton] at hk hlap
    rw [s.writeRun_concat_vramRead]
    obtain hlt | rfl := Nat.lt_succ_iff_lt_or_eq.1 hk
    · have hne : (s.ptr.toNat + k) % 16384 ≠ (s.ptr.toNat + bs.length) % 16384 := by omega
      rw [if_neg hne, List.getElem_append_left hlt]
      exact ih hlt (by omega)
    · rw [if_pos rfl, List.getElem_concat_length rfl]

theorem State.writeRun_vramRead_outside (a : Nat)
    (hout : ∀ k, k < bs.length → (s.ptr.toNat + k) % 16384 ≠ a % 16384) :
    (s.writeRun bs).vramRead a = s.vramRead a := by
  induction bs using List.reverseRecOn with
  | nil => rfl
  | append_singleton bs b ih =>
    rw [List.length_append, List.length_singleton] at hout
    rw [s.writeRun_concat_vramRead, if_neg (hout bs.length (Nat.lt_succ_self _)).symm]
    exact ih fun k hk => hout k (Nat.lt_succ_of_lt hk)

theorem State.writeRun_latchValid (hne : bs ≠ []) : (s.writeRun bs).latchValid = false := by
  rw [← List.dropLast_concat_getLast hne, s.writeRun_concat]
  rfl

theorem State.writeRun_frame :
    s.writeRun bs =
      { s with
        vram := (s.writeRun bs).vram
        ptr := (s.writeRun bs).ptr
        latchValid := (s.writeRun bs).latchValid } := by
  induction bs generalizing s with
  | nil => rfl
  | cons b bs ih => exact ih (s.storeNext b)

theorem State.writeRun_outputs : (s.writeRun bs).outputs = s.outputs := by
  rw [s.writeRun_frame]

/-- A run of at most one lap is found whole in the cells it was written to. -/
theorem State.writeRun_cells (hlap : bs.length ≤ 16384) :
    ((List.range bs.length).map fun k => (s.writeRun bs).vramRead (s.ptr.toNat + k)) = bs := by
  refine List.ext_getElem (by simp) fun k _ hk => ?_
  rw [List.getElem_map, List.getElem_range]
  exact s.writeRun_vramRead_lastLap bs k hk (hlap.trans (Nat.le_add_left _ k))

end

/-! ## The obligations of the two ports -/

/-- Settles O15: the write lands at the pointer as it was before the step. -/
theorem dataWriteStoresAtThePointerAndAdvances : Obligations.DataWriteStoresAtThePointerAndAdvances :=
  fun s b => ⟨_, exec_dataWrite_eq_storeNext s b, s.storeNext_vramRead b, toNat_add_ofNat s.ptr 1, rfl, rfl, rfl⟩

/-- Settles O18, by induction on the reads: each returns what the one before fetched, and the first what `SET_ADDR`
did. -/
theorem readsAfterSetAddrStreamVram : Obligations.ReadsAfterSetAddrStreamVram :=
  fun s a n => ⟨_, execAll_setAddr_replicate_dataRead s a n, rfl, toNat_add_ofNat a n,
    s.vramRead_toNat_add_ofNat a n, rfl, rfl⟩

/-- Settles O19, by induction from the end of the run, as the last write to a cell decides what it holds. -/
theorem writeRunStoresConsecutively : Obligations.WriteRunStoresConsecutively := by
  intro s bs hne
  have hptr : (s.writeRun bs).ptr.toNat = (s.ptr.toNat + bs.length) % 16384 := by
    rw [s.writeRun_ptr, toNat_add_ofNat]
  exact ⟨_, execAll_map_dataWrite s bs, s.writeRun_vramRead_lastLap bs, s.writeRun_vramRead_outside bs, hptr,
    s.writeRun_latchValid bs hne, s.writeRun_frame bs⟩

/-- Settles O20: the reads stream the cells from `A` on, and at most one lap of writes is found whole in them. -/
theorem writtenRunReadsBackInOrder : Obligations.WrittenRunReadsBackInOrder := by
  intro s a bs hlap
  have hwrite : execAll (.setAddr a :: bs.map Instr.dataWrite) s = .next ((s.setPtr a).fetchLatch.writeRun bs) :=
    (execAll_cons _ _ _ _ (exec_setAddr s a)).trans (execAll_map_dataWrite _ bs)
  obtain ⟨t, hread, hout, -⟩ := readsAfterSetAddrStreamVram ((s.setPtr a).fetchLatch.writeRun bs) a bs.length
  refine ⟨t, (execAll_append _ _ _ _ hwrite).trans hread, ?_⟩
  have hcells := (s.setPtr a).fetchLatch.writeRun_cells bs hlap
  rw [State.fetchLatch_ptr, State.setPtr_ptr] at hcells
  rw [hout, hcells, State.writeRun_outputs]
  rfl

/-- Settles O22: bit 7 of the second byte selects the command, and its operands are the pair's bits. -/
theorem ctrlWriteHoldsAByteThenResolvesThePair : Obligations.CtrlWriteHoldsAByteThenResolvesThePair := by
  intro s b
  obtain ⟨haddr, hreg⟩ := pairBytesFormTheCommand s.first b
  refine ⟨exec_ctrlWrite_first s b, fun hp hb => ?_, fun hp hb => ?_⟩
  · have hexec : exec (.ctrlWrite b) s = exec (.setAddr (b.extractLsb' 0 6 ++ s.first)) s.clearPending :=
      (exec_ctrlWrite_second s b hp).trans (congrArg (exec · _) (haddr hb))
    exact ⟨_, toNat_pairAddr s.first b, hexec, hexec⟩
  · have hexec : exec (.ctrlWrite b) s = exec (.regWrite (b.extractLsb' 0 3).toFin s.first) s.clearPending :=
      (exec_ctrlWrite_second s b hp).trans (congrArg (exec · _) (hreg hb))
    exact ⟨_, BitVec.extractLsb'_toNat 0 3 b, hexec, hexec⟩

/-- Settles O27: the command of the first pair leaves no byte pending, so the third byte is a first byte. -/
theorem thirdControlByteStartsANewPair : Obligations.ThirdControlByteStartsANewPair := by
  intro s b₁ b₂ b₃ hp
  obtain ⟨t, ht⟩ := exec_completes (decodeCmd (b₂ ++ b₁)) { s with first := b₁ }
  have hpair : execAll [.ctrlWrite b₁, .ctrlWrite b₂] s = .next t :=
    (execAll_ctrlWrite_ctrlWrite s b₁ b₂ hp).trans ht
  have hidle : t.pending = false := (exec_decodeCmd_pending _ _ t ht).trans hp
  have hthird : execAll [.ctrlWrite b₃] t = .next (t.holdFirst b₃) :=
    (execAll_singleton t _).trans (exec_ctrlWrite_first t b₃ hidle)
  exact ⟨t, _, ht, (execAll_append _ [.ctrlWrite b₃] s t hpair).trans hthird, rfl⟩

/-- Settles O16: the latch is returned, and the fetch is at the pointer as it is after the advance. -/
theorem dataReadReturnsTheLatchAndRefetches : Obligations.DataReadReturnsTheLatchAndRefetches :=
  fun s => ⟨_, _, exec_dataRead s, fun h => h.elim (s.latchByte_of_valid params) (s.latchByte_of_stale params), rfl,
    toNat_add_ofNat s.ptr 1, s.vramRead_toNat_add_ofNat s.ptr 1, rfl, rfl⟩

/-- Settles O23: the fetch reads the pointer just loaded. -/
theorem setAddrLoadsThePointerAndPrefetches : Obligations.SetAddrLoadsThePointerAndPrefetches := exec_setAddr

end Sys2Proof.Machine

namespace Sys2Proof.Machine

/-! ## The state after a `RENDER` (42_mode_renderer.md R180, R181, R200) -/

/-- The state after a `RENDER` (42_mode_renderer.md R180). -/
def State.rendered (s : State) : State := (s.showFrame (s.frame params)).setFrameFlag

section
variable (p : Params) (s t : State)

theorem exec_render_eq_rendered : exec .render s = .next s.rendered := exec_render s

/-- The effective mode reads the control registers alone (40_register_file.md R130). -/
theorem State.effectiveMode_congr (hregs : s.regs = t.regs) : s.effectiveMode p = t.effectiveMode p := by
  have hswap : s.effectiveMode p = State.effectiveMode p { t with regs := s.regs } := rfl
  rw [hswap, hregs]

/-- A frame reads the control registers and VRAM alone (42_mode_renderer.md R181). -/
theorem State.frame_eq_of_regs_of_vramRead (hregs : s.regs = t.regs) (hvram : ∀ a, s.vramRead a = t.vramRead a) :
    s.frame p = t.frame p := by
  have hreg (j : Fin 8) : s.reg j = t.reg j := by rw [State.reg, State.reg, hregs]
  exact s.frame_congr p t (fun j _ => hreg j) hvram (s.effectiveMode_congr p t hregs)

theorem State.setFrameFlag_setFrameFlag : s.setFrameFlag.setFrameFlag = s.setFrameFlag := by
  simp only [State.setFrameFlag, BitVec.or_assoc, BitVec.or_self]

theorem State.rendered_rendered : s.rendered.rendered = s.rendered := by
  have hframe : s.rendered.frame params = s.frame params :=
    State.frame_eq_of_regs_of_vramRead params _ s rfl fun _ => rfl
  have hshow : s.rendered.showFrame (s.frame params) = s.rendered := rfl
  rw [State.rendered, hframe, hshow]
  exact State.setFrameFlag_setFrameFlag _

/-- The host sees each pixel inside the frame as its code through the palette (42_mode_renderer.md R184, R203). -/
theorem State.rendered_pixel (x y : Nat) (hx : x < frameWidth (s.effectiveMode params)) (hy : y < 192) :
    s.rendered.pixel x y = some (Config.palette (s.pixelCode params (s.effectiveMode params) x y)) :=
  (if_pos ⟨hx, hy⟩).trans (s.frame_get params x y hx hy)

theorem State.rendered_pixel_of_width_le (x y : Nat) (hx : frameWidth (s.effectiveMode params) ≤ x) :
    s.rendered.pixel x y = none :=
  if_neg fun h => Nat.not_lt.2 hx h.1

end

/-- Only Text is narrower than 256 (42_mode_renderer.md R183). -/
theorem frameWidth_eq (m : FrameMode) : frameWidth m = if m = .text then 240 else 256 := by
  cases m <;> rfl

/-! ## Which mode is drawn (40_register_file.md R123, R130) -/

section
variable (p : Params) (s : State)

theorem State.effectiveMode_of_unsupported (h : s.mode = .unsupported) : s.effectiveMode p = .blank := by
  unfold State.effectiveMode
  split
  · rfl
  · rw [h]

/-- With the display enabled and neither `M2` nor `M3` set, `M1` selects between the two modes with tables. -/
theorem State.effectiveMode_of_enabled (h3 : (s.reg 0).getLsbD 1 = false) (h2 : (s.reg 1).getLsbD 3 = false)
    (hon : (s.reg 1).getLsbD 6 = true) :
    s.effectiveMode p = if (s.reg 1).getLsbD 4 = true then .text else .graphics1 := by
  rw [s.effectiveMode_of_not_blanked p (.inl hon), s.mode_eq, State.m1, State.m2, State.m3, h2, h3]
  cases (s.reg 1).getLsbD 4 <;> rfl

end

/-! ## The addresses this machine's renderer reads (42_mode_renderer.md R186 to R188, R191, R192; masks are log entry 8) -/

section
variable (s : State) (x y : Nat)

theorem State.graphics1Name_params :
    s.graphics1Name params x y = s.vramRead ((s.reg 2).toNat % 16 * 0x400 + y / 8 * 32 + x / 8) := by
  obtain ⟨hname, -, -⟩ := tableBasesFollowTheirRegisters s .g1
  rw [State.graphics1Name, hname]

theorem State.textName_params :
    s.textName params x y = s.vramRead ((s.reg 2).toNat % 16 * 0x400 + y / 8 * 40 + x / 6) := by
  obtain ⟨hname, -, -⟩ := tableBasesFollowTheirRegisters s .txt
  rw [State.textName, hname]

theorem State.patternLine_params (m : TableMode) (name : Byte) :
    s.patternLine params m name y = s.vramRead ((s.reg 4).toNat % 8 * 0x800 + name.toNat * 8 + y % 8) := by
  obtain ⟨-, hpattern, -⟩ := tableBasesFollowTheirRegisters s m
  rw [State.patternLine, hpattern]

theorem State.colourPair_params (name : Byte) :
    s.colourPair params name = s.vramRead ((s.reg 3).toNat * 0x40 + name.toNat / 8) := by
  rw [State.colourPair, s.colourBase_params_toNat]

end

/-- The colour pair is that of the group of 8 names (42_mode_renderer.md R188). -/
theorem State.colourPair_eq_of_group (p : Params) (s : State) (name name' : Byte)
    (h : name.toNat / 8 = name'.toNat / 8) : s.colourPair p name = s.colourPair p name' := by
  rw [State.colourPair, State.colourPair, h]

/-- Column `k` of a Text cell shows bit `5 - k` of the upper six bits of the pattern line (42_mode_renderer.md R190,
R193). -/
theorem getLsbD_upperSix (line : Byte) (k : Nat) (hk : k < 6) :
    (line >>> 2).getLsbD (5 - k) = line.getLsbD (7 - k) := by
  have hbit : 2 + (5 - k) = 7 - k := by omega
  rw [BitVec.getLsbD_ushiftRight, hbit]

/-! ## The obligations of the renderer -/

/-- Settles O34: the frame is whole in the effective mode's size, and only bit 7 of the status is set. -/
theorem renderDrawsEveryPixelAndSetsTheFrameFlag : Obligations.RenderDrawsEveryPixelAndSetsTheFrameFlag := by
  intro s
  have hstatus (k : Nat) : s.rendered.status.getLsbD k = (s.status.getLsbD k || k == 7) :=
    State.setFrameFlag_getLsbD _ k
  refine ⟨s.rendered, s.frame params, exec_render_eq_rendered s, rfl, frameWidth_eq _, rfl, s.frame_length params,
    s.frame_get params, ?_, fun k hk => ?_, rfl⟩
  · rw [hstatus, BEq.rfl, Bool.or_true]
  · rw [hstatus, beq_false_of_ne hk, Bool.or_false]

/-- Settles O35: a frame reads the registers and VRAM alone, and a `RENDER` leaves both as they are. -/
theorem frameDependsOnlyOnRegistersAndVram : Obligations.FrameDependsOnlyOnRegistersAndVram := by
  refine ⟨fun s t hregs hvram => ?_, fun s s' h => ?_⟩
  · have hframe : s.frame params = t.frame params := s.frame_eq_of_regs_of_vramRead params t hregs hvram
    exact ⟨s.rendered, t.rendered, exec_render_eq_rendered s, exec_render_eq_rendered t, congrArg some hframe⟩
  · cases h
    exact (exec_render_eq_rendered s.rendered).trans (congrArg Host.Outcome.next s.rendered_rendered)

/-- Settles O36: the mode drawn is Graphics I, whose code reads the three tables at this machine's bases. -/
theorem graphics1PixelFollowsNamePatternAndColourTables :
    Obligations.Graphics1PixelFollowsNamePatternAndColourTables := by
  intro s h3 h2 h1 hon
  have hmode : s.effectiveMode params = .graphics1 := by
    rw [s.effectiveMode_of_enabled params h3 h2 hon, h1, if_neg Bool.false_ne_true]
  refine ⟨s.rendered, exec_render_eq_rendered s, fun x y hx hy => ?_⟩
  have hpixel := s.rendered_pixel x y
  rw [hmode] at hpixel
  exact ⟨_, _, _, s.graphics1Name_params x y, s.patternLine_params y .g1 _, s.colourPair_params _, hpixel hx hy⟩

/-- Settles O37: the mode drawn is Text, whose code reads the two tables at this machine's bases, and column 240 is past
its width. -/
theorem textPixelFollowsNameAndPatternTables : Obligations.TextPixelFollowsNameAndPatternTables := by
  intro s h3 h2 h1 hon
  have hmode : s.effectiveMode params = .text := by
    rw [s.effectiveMode_of_enabled params h3 h2 hon, if_pos h1]
  refine ⟨s.rendered, exec_render_eq_rendered s, fun x y hx hy => ?_⟩
  have hpixel := s.rendered_pixel x y
  have hnone := s.rendered_pixel_of_width_le 240 y
  rw [hmode] at hpixel hnone
  refine ⟨_, _, s.textName_params x y, s.patternLine_params y .txt _, ?_, hnone (Nat.le_refl 240)⟩
  rw [getLsbD_upperSix _ _ (Nat.mod_lt x (by decide))]
  exact hpixel hx hy

/-- Settles O39: the effective mode is blank whether or not the display is blanked. -/
theorem unsupportedModeRendersAFlatFrame : Obligations.UnsupportedModeRendersAFlatFrame := by
  intro s h
  have hblank : s.effectiveMode params = .blank := s.effectiveMode_of_unsupported params h
  exact ⟨s.rendered, exec_render_eq_rendered s, congrArg some (s.frame_blank params hblank)⟩

/-- Settles O38: names of one group have one colour pair, of which equal pattern bits select the same nibble. -/
theorem namesOfOneGroupShareTheirColours : Obligations.NamesOfOneGroupShareTheirColours := by
  intro p s x y x' y' hgroup hbit
  have hpair := s.colourPair_eq_of_group p _ _ hgroup
  simp only [State.graphics1Code, hpair, hbit]

end Sys2Proof.Machine

namespace Sys2Proof.Machine

/-! ## The interrupt output, from the flag and the enable (60_exceptions.md R222) -/

section
variable (s : State)

theorem State.intOutput_of_frameFlag_set (h : s.frameFlag = true) : s.intOutput = (s.reg 1).getLsbD 5 := by
  rw [State.intOutput, h, Bool.true_and, State.intEnabled]

theorem State.intOutput_of_frameFlag_clear (h : s.frameFlag = false) : s.intOutput = false := by
  rw [State.intOutput, h, Bool.false_and]

/-- A write of register 1 decides the enable by the bit 5 it writes, and leaves the frame flag alone. -/
theorem State.intOutput_writeReg_one (v : Byte) : (s.writeReg 1 v).intOutput = (s.frameFlag && v.getLsbD 5) := by
  have hreg : (s.writeReg 1 v).reg 1 = v := by rw [State.reg_writeReg, if_pos rfl]
  rw [State.intOutput, State.intEnabled, hreg, State.frameFlag, State.writeReg_status, State.frameFlag]

end

/-! ## The obligation of the interrupt output -/

/-- Settles O45, from what `RENDER`, `STATUS_READ`, `RESET` and a write of register 1 each do to the flag and to the
enable. -/
theorem interruptOutputIsFlagAndEnable : Obligations.InterruptOutputIsFlagAndEnable := by
  intro s
  have hclear : State.reset.frameFlag = false := rfl
  exact ⟨rfl,
    ⟨_, exec_render s, State.intOutput_of_frameFlag_set _ (State.setFrameFlag_frameFlag _)⟩,
    ⟨_, exec_statusRead s, State.intOutput_of_frameFlag_clear _ (State.clearFrameFlag_frameFlag _)⟩,
    ⟨_, exec_reset s, State.intOutput_of_frameFlag_clear _ hclear⟩,
    fun v => ⟨_, exec_regWrite s 1 v, s.intOutput_writeReg_one v⟩⟩

end Sys2Proof.Machine

namespace Sys2Proof.Machine

/-! ## The frame of the reset state (70_reset_and_hazards.md R252) -/

section
variable (p : Params) (s : State)

/-- A state whose picture has one colour code throughout draws a frame of that code (42_mode_renderer.md R184, R203). -/
theorem State.frame_of_pixelCode_const (c : Colour) (h : ∀ x y, s.pixelCode p (s.effectiveMode p) x y = c) :
    s.frame p = ⟨frameWidth (s.effectiveMode p), 192,
      List.replicate (frameWidth (s.effectiveMode p) * 192) (p.palette c)⟩ := by
  simp only [State.frame, h, framePixels_const]
  rfl

/-- Where VRAM reads 0x00, both nibbles of every colour pair are code 0 (42_mode_renderer.md R188, R189). -/
theorem State.graphics1Code_of_vramRead_zero (h : ∀ a, s.vramRead a = 0x00#8) (x y : Nat) :
    s.graphics1Code p x y = 0#4 := by
  have hpair (name : Byte) : s.colourPair p name = 0x00#8 := h _
  simp [State.graphics1Code, hpair]

/-- The display is disabled at reset, so whether blanking is honoured decides what is drawn (40_register_file.md R130). -/
theorem State.reset_effectiveMode :
    State.reset.effectiveMode p = if p.blankHonoured = true then .blank else .graphics1 := by
  split
  · next hp => exact State.effectiveMode_of_blanked p _ hp rfl
  · next hp => rw [State.effectiveMode_of_not_blanked p _ (.inr (Bool.eq_false_iff.2 hp)), State.reset_mode]; rfl

/-- Blanked, the code is the backdrop's; drawn, it is read from a VRAM of zeros. -/
theorem State.reset_pixelCode (x y : Nat) :
    State.reset.pixelCode p (State.reset.effectiveMode p) x y = 0#4 := by
  rw [State.reset_effectiveMode]
  split
  · rfl
  · exact State.reset.graphics1Code_of_vramRead_zero p (fun _ => rfl) x y

theorem State.reset_frame : State.reset.frame p = ⟨256, 192, List.replicate (256 * 192) (p.palette 0#4)⟩ := by
  have hwidth : frameWidth (State.reset.effectiveMode p) = 256 := by
    rw [State.reset_effectiveMode]
    split <;> rfl
  rw [State.reset.frame_of_pixelCode_const p 0#4 (State.reset_pixelCode p), hwidth]

end

/-! ## The obligation of the first frame -/

/-- Settles O41: the reset state's frame is flat for either value of `BLANK_HONOURED`, and the frame flag is set over a
status of zeros. -/
theorem firstFrameAfterResetIsAllCodeZero : Obligations.FirstFrameAfterResetIsAllCodeZero :=
  ⟨State.reset.rendered, exec_render_eq_rendered State.reset, congrArg some (State.reset_frame params), rfl⟩

end Sys2Proof.Machine

namespace Sys2Proof.Machine

/-! ## The byte of a `DATA_READ` while the latch is not valid (92_eei_decisions.md D4) -/

/-- Settles O17: this machine takes `stale`, so the byte replied is the latch in every state. -/
theorem dataReadReturnsTheLatchEvenWhenStale : Obligations.DataReadReturnsTheLatchEvenWhenStale := by
  intro s
  have hbyte : s.latchByte params = s.latch := s.latchByte_of_stale params params_invalidLatchRead
  exact ⟨_, exec_dataRead s, congrArg (s.outputs ++ [·]) hbyte⟩

end Sys2Proof.Machine
